-- ==== Sys2Proof/Word.lean ====
section
/-! DEFINITION. The words of the MA-2416 and its finite index types: octets and fields of the link (R173), local time (R146),
tags and caller keys (00_scope.md, "Identifiers the host supplies"), sector, slot, level and screening entry numbers. -/

namespace Sys2Proof

/-- One octet of the link (R170, R173). -/
abbrev Octet := BitVec 8

/-- A value of local time, in milliseconds modulo 2^32 (R146). -/
abbrev Time := BitVec 32

/-- A request tag. Tag 0 is invalid (00_scope.md). -/
abbrev Tag := BitVec 32

/-- A caller key. Key 0 means unknown (00_scope.md). -/
abbrev CallerKey := BitVec 32

/-- The 21-bit screening key of R22. -/
abbrev ScreenKey := BitVec 21

/-- A sector number 0..15 (R1). -/
abbrev SectorId := Fin 16

/-- A slot number 0..23 (R5). -/
abbrev SlotId := Fin 24

/-- A slot named by its sector and its number. -/
abbrev Place := SectorId × SlotId

/-- A screening entry's index 0..31 (R21). -/
abbrev ScreenIndex := Fin 32

/-- A barring level 0..7 (R113). -/
abbrev LevelId := Fin 8

end Sys2Proof
end

