-- ==== Sys2Proof/Config.lean ====
section
/-! DEFINITION. What the part fixes once and for all (the capacities of its queues, lanes, lists and table) and the one free
value of the model, the order in which the part takes events that fall at one instant. -/

namespace Sys2Proof.Config

/-- The action lane holds 48 reports (R157). -/
abbrev actionPlaces : Nat := 48

/-- The status lane holds 32 reports (R157). -/
abbrev statusPlaces : Nat := 32

/-- The request queue holds 8 frames (R180). -/
abbrev requestPlaces : Nat := 8

/-- RHOLD is asserted from the instant the request queue holds 6 or more frames (R180). -/
abbrev rholdFrames : Nat := 6

/-- The reply queue holds 8 replies (R182). -/
abbrev replyPlaces : Nat := 8

/-- The emergency list holds 32 entries (R63). -/
abbrev emergencyPlaces : Nat := 32

/-- The priority list holds 48 entries (R63). -/
abbrev priorityPlaces : Nat := 48

/-- The general list holds 96 entries (R63). -/
abbrev generalPlaces : Nat := 96

/-- The repeat-caller table holds 128 entries (R135). -/
abbrev repeatPlaces : Nat := 128

/-- The saturation point of the 16-bit counters (R28, R62, R165, R179). -/
abbrev counterTop : Nat := 65535

/-- A sweep expiry is taken no later than 10 ms after its deadline (R153). -/
abbrev sweepLateness : Nat := 10

/-- DESIGN CHOICE, log 3: the part does not fix the order of events that fall at one instant (R153, R155, R161, R117, R133),
so the number that picks one of them is a free value with no body. It is applied to the counter `State.choices`. Safe: a
statement holds whatever the order. -/
opaque choice : Nat → Nat

end Sys2Proof.Config
end

