-- ==== Sys2Proof/Machine/Octets.lean ====
section
/-! DEFINITION. Octets and fields: a field of more than one octet is sent high octet first (R173). -/

namespace Sys2Proof.Machine

/-- A number as one octet. -/
def octet (n : Nat) : Octet := BitVec.ofNat 8 n

/-- A yes/no field (section 10.6, codes): 1 for yes, 0 for no. -/
def octetOfBool (b : Bool) : Octet := if b then 1 else 0

/-- The two octets of a 16-bit field, high octet first (R173). -/
def octets2 (x : BitVec 16) : List Octet := [x.extractLsb' 8 8, x.extractLsb' 0 8]

/-- The three octets of a 24-bit field, high octet first (R173). -/
def octets3 (x : BitVec 24) : List Octet := [x.extractLsb' 16 8, x.extractLsb' 8 8, x.extractLsb' 0 8]

/-- The four octets of a 32-bit field, high octet first (R173). -/
def octets4 (x : BitVec 32) : List Octet :=
  [x.extractLsb' 24 8, x.extractLsb' 16 8, x.extractLsb' 8 8, x.extractLsb' 0 8]

/-- A number as a two-octet field. -/
def octetsNat2 (n : Nat) : List Octet := octets2 (BitVec.ofNat 16 n)

/-- The 16-bit field of two octets, high octet first (R173). -/
def join2 (a b : Octet) : BitVec 16 := a ++ b

/-- The 24-bit field of three octets, high octet first (R173). -/
def join3 (a b c : Octet) : BitVec 24 := a ++ b ++ c

/-- The 32-bit field of four octets, high octet first (R173). -/
def join4 (a b c d : Octet) : BitVec 32 := a ++ b ++ c ++ d

end Sys2Proof.Machine
end

