-- ==== Sys2Proof/Syntax.lean ====
section
/-! DEFINITION. The commands of the MA-2416: one constructor of `Instr` for each row of spec/opcode_table.json, with the fields
that section 10.6 gives its request or the operands that its event carries. -/

namespace Sys2Proof

/-- The 24 request kinds of section 10.6. -/
inductive RequestKind where
  | admitCall | release | cancel
  | sectorSet | sectorDrain | sectorResume | sectorDisable
  | screenSet | screenHold | screenFree
  | levelSet | timerSet
  | surgeOpen | surgeExtend | surgeClose
  | guardLock | audit
  | queryStatus | querySector | querySlots | queryList | queryScreen | queryLevels
  | restart
deriving DecidableEq, Repr

/-- A frame as the request queue holds it (R173, R180): its kind octet and its body. The length octet is the body's length plus
one, and the start octet and the check sequence have done their work. -/
structure Frame where
  kind : Octet
  body : List Octet
deriving DecidableEq, Repr

/-- The body of a request frame: the fields of its kind, or octets whose number is wrong for the kind, which R181 answers
REJECT BAD-LENGTH (log 6). -/
inductive Body (α : Type) where
  | ok (fields : α)
  | badLength (octets : List Octet)
deriving DecidableEq, Repr

/-- The fields of ADMIT, in message order (section 10.6). -/
structure AdmitFields where
  tag : Tag
  sector : Octet
  key : CallerKey
  service : BitVec 16
  accessClass : Octet
  cause : Octet
deriving DecidableEq, Repr

/-- The fields of SECTOR-SET, in message order (section 10.6). -/
structure SectorSetFields where
  sector : Octet
  capacity : Octet
  generalGuard : Octet
  priorityGuard : Octet
  neighbourCount : Octet
  neighbour1 : Octet
  neighbour2 : Octet
  neighbour3 : Octet
  weight : Octet
  depth : Octet
deriving DecidableEq, Repr

/-- The fields of SCREEN-SET, in message order (section 10.6). -/
structure ScreenSetFields where
  index : Octet
  enabled : Octet
  matchValue : BitVec 24
  mask : BitVec 24
  action : Octet
  cls : Octet
  preemptible : Octet
  reason : Octet
deriving DecidableEq, Repr

/-- The fields of LEVEL-SET, in message order (section 10.6). -/
structure LevelSetFields where
  level : Octet
  threshold : BitVec 16
  refill : Octet
  barPct : Octet
  barTime : BitVec 16
  base : BitVec 16
deriving DecidableEq, Repr

/-- The fields of TIMER-SET, in message order (section 10.6). -/
structure TimerSetFields where
  generalWait : Octet
  priorityWait : Octet
  emergencyWait : Octet
  escalationTime : Octet
  vacateTimeout : BitVec 16
  repeatWindow : BitVec 16
  jitter : BitVec 16
  policy : Octet
  epochPeriod : BitVec 16
deriving DecidableEq, Repr

/-- The fields of SURGE-OPEN, in message order (section 10.6). -/
structure SurgeOpenFields where
  duration : BitVec 16
  floor : Octet
deriving DecidableEq, Repr

/-- One pair of an AUDIT (R187). -/
structure AuditPair where
  slot : Octet
  tag : Tag
deriving DecidableEq, Repr

/-- The fields of AUDIT: a sector and 1..12 pairs; the pair count octet is the number of pairs (R187). -/
structure AuditFields where
  sector : Octet
  pairs : List AuditPair
deriving DecidableEq, Repr

/-- The fields of QUERY-SLOTS (R192). -/
structure QuerySlotsFields where
  sector : Octet
  firstSlot : Octet
deriving DecidableEq, Repr

/-- The fields of QUERY-LIST (R193). -/
structure QueryListFields where
  cls : Octet
  start : Octet
deriving DecidableEq, Repr

/-- The levels, high or low, of the three centre samples 7, 8 and 9 of one bit (R171). -/
structure CentreSamples where
  s7 : Bool
  s8 : Bool
  s9 : Bool
deriving DecidableEq, Repr

/-- A character as the receiver samples it (R171): whether the line has stood high since the character before it, and the centre
samples of its start bit, of its eight data bits, least significant first, and of its stop bit. -/
structure CharSamples where
  lineReturned : Bool
  start : CentreSamples
  d0 : CentreSamples
  d1 : CentreSamples
  d2 : CentreSamples
  d3 : CentreSamples
  d4 : CentreSamples
  d5 : CentreSamples
  d6 : CentreSamples
  d7 : CentreSamples
  stop : CentreSamples
deriving DecidableEq, Repr

/-- The commands of the part, one constructor for each row of the table. A request command is the decoder's taking of one frame
(R181); the other commands are the part's own events. -/
inductive Instr where
  | admitCall (b : Body AdmitFields)
  | release (b : Body Tag)
  | cancel (b : Body Tag)
  | sectorSet (b : Body SectorSetFields)
  | sectorDrain (b : Body Octet)
  | sectorResume (b : Body Octet)
  | sectorDisable (b : Body Octet)
  | screenSet (b : Body ScreenSetFields)
  | screenHold (b : Body Octet)
  | screenFree (b : Body Unit)
  | levelSet (b : Body LevelSetFields)
  | timerSet (b : Body TimerSetFields)
  | surgeOpen (b : Body SurgeOpenFields)
  | surgeExtend (b : Body (BitVec 16))
  | surgeClose (b : Body Unit)
  | guardLock (b : Body Unit)
  | audit (b : Body AuditFields)
  | queryStatus (b : Body Unit)
  | querySector (b : Body Octet)
  | querySlots (b : Body QuerySlotsFields)
  | queryList (b : Body QueryListFields)
  | queryScreen (b : Body Octet)
  | queryLevels (b : Body Unit)
  | restart (b : Body Unit)
  /-- The decoder takes a frame whose kind octet names no request (R181). -/
  | unknownKind (kind : Octet) (body : List Octet)
  /-- The second check octet of a frame arrives (R177). -/
  | goodFrame (octet : Octet)
  /-- A length octet out of range arrives (R175). -/
  | badLengthOctet (octet : Octet)
  /-- The gap inside a frame passes 1 ms (R176). -/
  | gapTimeout
  /-- THOLD is driven low for that many consecutive samples (R172). -/
  | tholdAsserted (samples : Nat)
  /-- THOLD is driven high for that many consecutive samples (R172). -/
  | tholdDeasserted (samples : Nat)
  /-- The transmit arbiter chooses with no frame in transmission (R166). -/
  | frameBoundary
  /-- The last octet of the frame in transmission leaves (R158). -/
  | frameEnd
  /-- The arbiter answers a room-appeared signal with its service retry (R76). -/
  | deferredServiceRetry
  /-- The arbiter answers a room-appeared signal with a victim-search pass (R76, R96). -/
  | deferredPass
  /-- The sweep delivers the waiting deadline of the entry with this tag (R153). -/
  | waitingExpiry (tag : Tag)
  /-- The sweep delivers the escalation point of the emergency entry with this tag (R109). -/
  | escalation (tag : Tag)
  /-- The sweep delivers the vacate deadline of this slot (R105). -/
  | vacateExpiry (sector : SectorId) (slot : SlotId)
  | epochBoundary
  | closingPoint
  | surgeExpiry
  | powerOnReset
  /-- The reset ends with the straps at these levels, true for high (R170). -/
  | resetEnd (bsel1 bsel0 : Bool)
  /-- The receiver takes a character with these samples (R171, R175). -/
  | octetDelivered (c : CharSamples)
deriving DecidableEq, Repr

end Sys2Proof
end

