-- ==== Sys2Proof/Decode.lean ====
section
/-! DEFINITION. Words and frames: `decodeTableWord` over the rows of the table that give bits (none does), and the decoder of
request frames with its inverse (R181, section 10.6). -/

namespace Sys2Proof

open Machine

/-- The command that a word spells by the table's bits. No row of spec/opcode_table.json gives any bits, so no word spells one
(log 1). -/
def decodeTableWord (_nbits _w : Nat) : Option Instr := none

/-- The kind octet of a request (section 10.6, request kinds). -/
def RequestKind.code : RequestKind → Octet
  | .admitCall => 0x01
  | .release => 0x02
  | .cancel => 0x03
  | .sectorSet => 0x08
  | .sectorDrain => 0x09
  | .sectorResume => 0x0A
  | .sectorDisable => 0x0B
  | .screenSet => 0x10
  | .screenHold => 0x11
  | .screenFree => 0x12
  | .levelSet => 0x18
  | .timerSet => 0x19
  | .surgeOpen => 0x20
  | .surgeExtend => 0x21
  | .surgeClose => 0x22
  | .guardLock => 0x28
  | .audit => 0x29
  | .queryStatus => 0x30
  | .querySector => 0x31
  | .querySlots => 0x32
  | .queryList => 0x33
  | .queryScreen => 0x34
  | .queryLevels => 0x35
  | .restart => 0x3F

/-- The request kinds in the order of section 10.6. -/
def RequestKind.all : List RequestKind :=
  [.admitCall, .release, .cancel, .sectorSet, .sectorDrain, .sectorResume, .sectorDisable, .screenSet, .screenHold,
    .screenFree, .levelSet, .timerSet, .surgeOpen, .surgeExtend, .surgeClose, .guardLock, .audit, .queryStatus,
    .querySector, .querySlots, .queryList, .queryScreen, .queryLevels, .restart]

/-- The request that a kind octet names, none where it names no request (R181, step 1). -/
def RequestKind.ofCode (k : Octet) : Option RequestKind := RequestKind.all.find? (fun r => r.code == k)

/-- The pairs of an AUDIT body after its sector and pair count octets: five octets each (section 10.6). -/
def auditPairs : List Octet → Option (List AuditPair)
  | [] => some []
  | s :: a :: b :: c :: d :: rest => (auditPairs rest).map (fun ps => ⟨s, join4 a b c d⟩ :: ps)
  | _ => none

/-- The octets of one AUDIT pair (section 10.6). -/
def auditPairOctets (p : AuditPair) : List Octet := p.slot :: octets4 p.tag

/-- The decoder's length check (R181, step 2): the body has the length that section 10.6 gives the kind; for AUDIT the pair count
octet is 1..12 and five octets follow for each pair. -/
def RequestKind.bodyFits (k : RequestKind) (body : List Octet) : Bool :=
  match k with
  | .admitCall => body.length == 13
  | .release => body.length == 4
  | .cancel => body.length == 4
  | .sectorSet => body.length == 10
  | .sectorDrain => body.length == 1
  | .sectorResume => body.length == 1
  | .sectorDisable => body.length == 1
  | .screenSet => body.length == 12
  | .screenHold => body.length == 1
  | .screenFree => body.length == 0
  | .levelSet => body.length == 9
  | .timerSet => body.length == 13
  | .surgeOpen => body.length == 3
  | .surgeExtend => body.length == 2
  | .surgeClose => body.length == 0
  | .guardLock => body.length == 0
  | .audit =>
    match body with
    | _ :: count :: rest => decide (1 ≤ count.toNat ∧ count.toNat ≤ 12 ∧ rest.length = 5 * count.toNat)
    | _ => false
  | .queryStatus => body.length == 0
  | .querySector => body.length == 1
  | .querySlots => body.length == 2
  | .queryList => body.length == 2
  | .queryScreen => body.length == 1
  | .queryLevels => body.length == 0
  | .restart => body.length == 0

/-- The command of a request kind with a body: the fields of section 10.6 where the length is right. -/
def commandOfBody (k : RequestKind) (body : List Octet) : Instr :=
  match k with
  | .admitCall =>
    match body with
    | [t3, t2, t1, t0, s, k3, k2, k1, k0, v1, v0, a, e] =>
      .admitCall (.ok ⟨join4 t3 t2 t1 t0, s, join4 k3 k2 k1 k0, join2 v1 v0, a, e⟩)
    | _ => .admitCall (.badLength body)
  | .release =>
    match body with
    | [t3, t2, t1, t0] => .release (.ok (join4 t3 t2 t1 t0))
    | _ => .release (.badLength body)
  | .cancel =>
    match body with
    | [t3, t2, t1, t0] => .cancel (.ok (join4 t3 t2 t1 t0))
    | _ => .cancel (.badLength body)
  | .sectorSet =>
    match body with
    | [s, c, gg, pg, n, n1, n2, n3, w, d] => .sectorSet (.ok ⟨s, c, gg, pg, n, n1, n2, n3, w, d⟩)
    | _ => .sectorSet (.badLength body)
  | .sectorDrain =>
    match body with
    | [s] => .sectorDrain (.ok s)
    | _ => .sectorDrain (.badLength body)
  | .sectorResume =>
    match body with
    | [s] => .sectorResume (.ok s)
    | _ => .sectorResume (.badLength body)
  | .sectorDisable =>
    match body with
    | [s] => .sectorDisable (.ok s)
    | _ => .sectorDisable (.badLength body)
  | .screenSet =>
    match body with
    | [i, e, v2, v1, v0, m2, m1, m0, a, c, p, r] =>
      .screenSet (.ok ⟨i, e, join3 v2 v1 v0, join3 m2 m1 m0, a, c, p, r⟩)
    | _ => .screenSet (.badLength body)
  | .screenHold =>
    match body with
    | [i] => .screenHold (.ok i)
    | _ => .screenHold (.badLength body)
  | .screenFree =>
    match body with
    | [] => .screenFree (.ok ())
    | _ => .screenFree (.badLength body)
  | .levelSet =>
    match body with
    | [l, h1, h0, r, p, b1, b0, e1, e0] => .levelSet (.ok ⟨l, join2 h1 h0, r, p, join2 b1 b0, join2 e1 e0⟩)
    | _ => .levelSet (.badLength body)
  | .timerSet =>
    match body with
    | [g, p, e, c, v1, v0, w1, w0, j1, j0, y, t1, t0] =>
      .timerSet (.ok ⟨g, p, e, c, join2 v1 v0, join2 w1 w0, join2 j1 j0, y, join2 t1 t0⟩)
    | _ => .timerSet (.badLength body)
  | .surgeOpen =>
    match body with
    | [d1, d0, f] => .surgeOpen (.ok ⟨join2 d1 d0, f⟩)
    | _ => .surgeOpen (.badLength body)
  | .surgeExtend =>
    match body with
    | [d1, d0] => .surgeExtend (.ok (join2 d1 d0))
    | _ => .surgeExtend (.badLength body)
  | .surgeClose =>
    match body with
    | [] => .surgeClose (.ok ())
    | _ => .surgeClose (.badLength body)
  | .guardLock =>
    match body with
    | [] => .guardLock (.ok ())
    | _ => .guardLock (.badLength body)
  | .audit =>
    match body with
    | s :: count :: rest =>
      if 1 ≤ count.toNat ∧ count.toNat ≤ 12 ∧ rest.length = 5 * count.toNat then
        match auditPairs rest with
        | some ps => .audit (.ok ⟨s, ps⟩)
        | none => .audit (.badLength body)
      else .audit (.badLength body)
    | _ => .audit (.badLength body)
  | .queryStatus =>
    match body with
    | [] => .queryStatus (.ok ())
    | _ => .queryStatus (.badLength body)
  | .querySector =>
    match body with
    | [s] => .querySector (.ok s)
    | _ => .querySector (.badLength body)
  | .querySlots =>
    match body with
    | [s, n] => .querySlots (.ok ⟨s, n⟩)
    | _ => .querySlots (.badLength body)
  | .queryList =>
    match body with
    | [c, p] => .queryList (.ok ⟨c, p⟩)
    | _ => .queryList (.badLength body)
  | .queryScreen =>
    match body with
    | [i] => .queryScreen (.ok i)
    | _ => .queryScreen (.badLength body)
  | .queryLevels =>
    match body with
    | [] => .queryLevels (.ok ())
    | _ => .queryLevels (.badLength body)
  | .restart =>
    match body with
    | [] => .restart (.ok ())
    | _ => .restart (.badLength body)

/-- The command that a frame of the request queue stands for: the decoder's first two steps (R181). -/
def commandOfFrame (f : Frame) : Instr :=
  match RequestKind.ofCode f.kind with
  | some k => commandOfBody k f.body
  | none => .unknownKind f.kind f.body

/-- The octets of a request body: its fields in message order (section 10.6), or the octets of a wrong length as they came. -/
def Body.octets {α : Type} (enc : α → List Octet) : Body α → List Octet
  | .ok a => enc a
  | .badLength l => l

/-- The frame of a request command, its fields in message order with their sizes (section 10.6); none for an event. -/
def frameOf (i : Instr) : Option Frame :=
  match i with
  | .admitCall b =>
    some ⟨RequestKind.code .admitCall, b.octets (fun f =>
      octets4 f.tag ++ [f.sector] ++ octets4 f.key ++ octets2 f.service ++ [f.accessClass, f.cause])⟩
  | .release b => some ⟨RequestKind.code .release, b.octets octets4⟩
  | .cancel b => some ⟨RequestKind.code .cancel, b.octets octets4⟩
  | .sectorSet b =>
    some ⟨RequestKind.code .sectorSet, b.octets (fun f =>
      [f.sector, f.capacity, f.generalGuard, f.priorityGuard, f.neighbourCount, f.neighbour1, f.neighbour2, f.neighbour3,
        f.weight, f.depth])⟩
  | .sectorDrain b => some ⟨RequestKind.code .sectorDrain, b.octets (fun s => [s])⟩
  | .sectorResume b => some ⟨RequestKind.code .sectorResume, b.octets (fun s => [s])⟩
  | .sectorDisable b => some ⟨RequestKind.code .sectorDisable, b.octets (fun s => [s])⟩
  | .screenSet b =>
    some ⟨RequestKind.code .screenSet, b.octets (fun f =>
      [f.index, f.enabled] ++ octets3 f.matchValue ++ octets3 f.mask ++ [f.action, f.cls, f.preemptible, f.reason])⟩
  | .screenHold b => some ⟨RequestKind.code .screenHold, b.octets (fun i => [i])⟩
  | .screenFree b => some ⟨RequestKind.code .screenFree, b.octets (fun _ => [])⟩
  | .levelSet b =>
    some ⟨RequestKind.code .levelSet, b.octets (fun f =>
      [f.level] ++ octets2 f.threshold ++ [f.refill, f.barPct] ++ octets2 f.barTime ++ octets2 f.base)⟩
  | .timerSet b =>
    some ⟨RequestKind.code .timerSet, b.octets (fun f =>
      [f.generalWait, f.priorityWait, f.emergencyWait, f.escalationTime] ++ octets2 f.vacateTimeout ++
        octets2 f.repeatWindow ++ octets2 f.jitter ++ [f.policy] ++ octets2 f.epochPeriod)⟩
  | .surgeOpen b => some ⟨RequestKind.code .surgeOpen, b.octets (fun f => octets2 f.duration ++ [f.floor])⟩
  | .surgeExtend b => some ⟨RequestKind.code .surgeExtend, b.octets octets2⟩
  | .surgeClose b => some ⟨RequestKind.code .surgeClose, b.octets (fun _ => [])⟩
  | .guardLock b => some ⟨RequestKind.code .guardLock, b.octets (fun _ => [])⟩
  | .audit b =>
    some ⟨RequestKind.code .audit, b.octets (fun f =>
      [f.sector, octet f.pairs.length] ++ f.pairs.flatMap auditPairOctets)⟩
  | .queryStatus b => some ⟨RequestKind.code .queryStatus, b.octets (fun _ => [])⟩
  | .querySector b => some ⟨RequestKind.code .querySector, b.octets (fun s => [s])⟩
  | .querySlots b => some ⟨RequestKind.code .querySlots, b.octets (fun f => [f.sector, f.firstSlot])⟩
  | .queryList b => some ⟨RequestKind.code .queryList, b.octets (fun f => [f.cls, f.start])⟩
  | .queryScreen b => some ⟨RequestKind.code .queryScreen, b.octets (fun i => [i])⟩
  | .queryLevels b => some ⟨RequestKind.code .queryLevels, b.octets (fun _ => [])⟩
  | .restart b => some ⟨RequestKind.code .restart, b.octets (fun _ => [])⟩
  | .unknownKind k body => some ⟨k, body⟩
  | .goodFrame _ => none
  | .badLengthOctet _ => none
  | .gapTimeout => none
  | .tholdAsserted _ => none
  | .tholdDeasserted _ => none
  | .frameBoundary => none
  | .frameEnd => none
  | .deferredServiceRetry => none
  | .deferredPass => none
  | .waitingExpiry _ => none
  | .escalation _ => none
  | .vacateExpiry _ _ => none
  | .epochBoundary => none
  | .closingPoint => none
  | .surgeExpiry => none
  | .powerOnReset => none
  | .resetEnd _ _ => none
  | .octetDelivered _ => none

end Sys2Proof
end

