-- ==== Sys2Proof/Machine/Records.lean ====
section
/-! DEFINITION. The records the part keeps: tables of fixed size, sector records (R1), slot records (R5), waiting entries (R44,
R89), screening entries (R21), level table rows (R113), repeat-caller entries (R135), settings (R148) and the surge window (R128). -/

namespace Sys2Proof.Machine

/-- A table of `n` records, indexed by `Fin n`. -/
structure Table (α : Type) (n : Nat) where
  toList : List α
  size_eq : toList.length = n
deriving DecidableEq, Repr

/-- The record at an index. -/
def Table.get {α : Type} {n : Nat} (t : Table α n) (i : Fin n) : α :=
  t.toList[i.val]'(by rw [t.size_eq]; exact i.isLt)

/-- The table with another record at an index. -/
def Table.set {α : Type} {n : Nat} (t : Table α n) (i : Fin n) (x : α) : Table α n :=
  ⟨t.toList.set i.val x, by rw [List.length_set, t.size_eq]⟩

/-- The table whose records are all the same. -/
def Table.replicate {α : Type} (n : Nat) (x : α) : Table α n :=
  ⟨List.replicate n x, List.length_replicate⟩

/-- The table with a function applied to every record. -/
def Table.map {α : Type} {n : Nat} (t : Table α n) (f : α → α) : Table α n :=
  ⟨t.toList.map f, by rw [List.length_map, t.size_eq]⟩

/-- The call classes, in order of precedence (00_scope.md, "Call classes"). -/
inductive CallClass where
  | emergency | priority | general
deriving DecidableEq, Repr

/-- The sector states of R4. -/
inductive SectorState where
  | disabled | opened | draining | drained
deriving DecidableEq, Repr

/-- A vote of R122. -/
inductive Vote where
  | up | hold | down
deriving DecidableEq, Repr

/-- The three most recent votes, oldest first (R1). -/
structure VoteHistory where
  oldest : Vote
  middle : Vote
  newest : Vote
deriving DecidableEq, Repr

/-- HOLD, HOLD, HOLD. -/
def VoteHistory.cleared : VoteHistory := ⟨.hold, .hold, .hold⟩

/-- A sector record (R1). -/
structure Sector where
  state : SectorState
  capacity : Nat
  generalGuard : Nat
  priorityGuard : Nat
  neighbours : List SectorId
  weight : Nat
  depth : Nat
  tokens : Nat
  pressure : Nat
  level : LevelId
  votes : VoteHistory
deriving DecidableEq, Repr

/-- A sector record at power-on reset (R1, last column). -/
def Sector.powerOn : Sector :=
  { state := .disabled, capacity := 0, generalGuard := 0, priorityGuard := 0, neighbours := [], weight := 4, depth := 32,
    tokens := 0, pressure := 0, level := 0, votes := VoteHistory.cleared }

/-- The call part of a slot record (R5). -/
structure Call where
  tag : Tag
  cls : CallClass
  preemptible : Bool
  admitTime : Time
  origin : SectorId
deriving DecidableEq, Repr

/-- Which preemption order is outstanding (R5). -/
inductive Attempt where
  | first | second
deriving DecidableEq, Repr

/-- The condition of a waiting or vacate deadline in the sweep's set (R151, R154): watched (ahead, or reached and not yet taken,
which local time tells); declined and pending for room; pending and delivered again by a room-appeared signal, not yet answered
(log 8). -/
inductive Watch where
  | watched | pendingRoom | signalled
deriving DecidableEq, Repr

/-- The vacate part of a slot record (R5), with its deadline's condition in the sweep's set. -/
structure Vacate where
  attempt : Attempt
  deadline : Time
  watch : Watch
  beneficiary : Option Tag
deriving DecidableEq, Repr

/-- A slot record (R5): the call part and the vacate part are present exactly in the states that carry them. -/
inductive Slot where
  | closed
  | free
  | active (c : Call)
  | vacating (c : Call) (v : Vacate)
  | stuck (c : Call)
deriving DecidableEq, Repr

/-- A waiting entry (R44), with its escalation point (R89) and its deadline's condition in the sweep's set (R151). The merged
count, the escalated flag, the escalation point and the earmark are for emergency entries only; others hold 0, no and absent. -/
structure Waiting where
  tag : Tag
  cls : CallClass
  sector : SectorId
  key : CallerKey
  preemptible : Bool
  arrival : Time
  deadline : Time
  watch : Watch
  merged : Nat
  escalated : Bool
  escalationPoint : Option Time
  earmark : Option Place
deriving DecidableEq, Repr

/-- The action fields of a screening entry (R21): a class and a preemptible flag, or a reason code 1..15. -/
inductive ScreenAction where
  | assign (cls : CallClass) (preemptible : Bool)
  | bar (reason : Fin 16)
deriving DecidableEq, Repr

/-- What a held copy copies of a screening entry (R21): enabled, match value, mask and the action fields. -/
structure ScreenContent where
  enabled : Bool
  matchValue : ScreenKey
  mask : ScreenKey
  action : ScreenAction
deriving DecidableEq, Repr

/-- A screening entry (R21), its held copy apart. -/
structure ScreenEntry where
  content : ScreenContent
  hits : Nat
deriving DecidableEq, Repr

/-- A screening entry at power-on reset (R21, last column). -/
def ScreenEntry.powerOn : ScreenEntry :=
  { content := { enabled := false, matchValue := 0, mask := 0, action := .assign .general true }, hits := 0 }

/-- The edit hold: the held entry's index and its held copy (R21, R32). It is stored once, so at most one entry is held (log 16). -/
structure Hold where
  index : ScreenIndex
  copy : ScreenContent
deriving DecidableEq, Repr

/-- The screening table (R21). -/
structure Screening where
  entries : Table ScreenEntry 32
  hold : Option Hold
deriving DecidableEq, Repr

/-- A row of the level table (R113). -/
structure LevelRow where
  threshold : Nat
  refill : Nat
  barPct : Nat
  barTime : Nat
  base : Nat
deriving DecidableEq, Repr

/-- The level table's power-on values (R113). -/
def LevelRow.defaults : Table LevelRow 8 :=
  ⟨[⟨0, 32, 0, 4, 250⟩, ⟨512, 24, 10, 8, 500⟩, ⟨1024, 16, 20, 16, 750⟩, ⟨1536, 12, 30, 32, 1000⟩,
    ⟨2048, 8, 50, 64, 1500⟩, ⟨2560, 4, 70, 128, 2000⟩, ⟨3072, 2, 85, 256, 3000⟩, ⟨3584, 0, 95, 512, 4000⟩], rfl⟩

/-- The open surge window (R128): floor, close time, and whether the closing notice is due (otherwise it is sent). -/
structure Surge where
  floor : LevelId
  close : Time
  noticeDue : Bool
deriving DecidableEq, Repr

/-- The load governor's own state (R113, R115, R128); its sector fields stand in the sector records (R1). -/
structure Governor where
  activePeriod : Nat
  stagedPeriod : Nat
  activeTable : Table LevelRow 8
  stagedTable : Table LevelRow 8
  nextBoundary : Time
  surge : Option Surge
deriving DecidableEq, Repr

/-- A repeat-caller entry (R135). -/
structure RepeatEntry where
  key : CallerKey
  count : Nat
  last : Time
deriving DecidableEq, Repr

/-- The general list policy (R55). -/
inductive ListPolicy where
  | protect | displace
deriving DecidableEq, Repr

/-- The eight settings that TIMER-SET writes at once (R148), waits and window in seconds, vacate timeout in ms. -/
structure Settings where
  generalWait : Nat
  priorityWait : Nat
  emergencyWait : Nat
  escalationTime : Nat
  vacateTimeout : Nat
  repeatWindow : Nat
  jitter : Nat
  policy : ListPolicy
deriving DecidableEq, Repr

/-- The settings at power-on reset (R148). -/
def Settings.powerOn : Settings :=
  { generalWait := 8, priorityWait := 15, emergencyWait := 60, escalationTime := 5, vacateTimeout := 2000,
    repeatWindow := 60, jitter := 500, policy := .protect }

end Sys2Proof.Machine
end

