-- ==== Sys2Proof/Machine/Messages.lean ====
section
/-! DEFINITION. What the part sends: action reports (R162), status reports (R163), replies (R182), and their kinds and octets
(section 10.6; R190, R191, R194, R195). -/

namespace Sys2Proof.Machine

/-- The causes of an EXPIRED report (R162). -/
inductive ExpiredCause where
  | timeout | displaced
deriving DecidableEq, Repr

/-- The action reports (R162). -/
inductive ActionReport where
  | grant (tag : Tag) (place : Place) (cls : CallClass) (waited : Time)
  | preempt (victim : Tag) (place : Place) (attempt : Attempt)
  | withdraw (victim : Tag) (place : Place)
  | expired (tag : Tag) (cls : CallClass) (cause : ExpiredCause) (waited : Time) (hint : Nat)
  | stuck (victim : Tag) (place : Place)
deriving DecidableEq, Repr

/-- The events of a SURGE report (R163). -/
inductive SurgeEvent where
  | opened | closing | closed
deriving DecidableEq, Repr

/-- The status reports (R163); barring time and remaining time in seconds. -/
inductive StatusReport where
  | level (sector : SectorId) (level : LevelId) (barPct barTime : Nat)
  | surge (event : SurgeEvent) (floor : LevelId) (remaining : Nat)
  | drained (sector : SectorId)
  | noisy (gap check overrun : Nat)
deriving DecidableEq, Repr

/-- The reject codes (section 10.6). -/
inductive RejectCode where
  | badField | badLength | unknownKind | unknownTag | duplicateTag | sectorDisabled
  | notActive | notWaiting | notOpen | busy | writeDenied | locked
deriving DecidableEq, Repr

/-- The refusal reasons with what each carries (R60). -/
inductive RefusalReason where
  | barred (index : ScreenIndex) (code : Fin 16)
  | throttled
  | listFull (cls : CallClass)
  | draining (cls : CallClass)
  | emergencyFull
deriving DecidableEq, Repr

/-- The slot state as messages carry it: the two attempts of VACATING are kept apart (section 10.6). -/
inductive SlotCode where
  | closed | free | active | vacating1 | vacating2 | stuck
deriving DecidableEq, Repr

/-- The slot state of a slot record as messages carry it. -/
def Slot.code : Slot → SlotCode
  | .closed => .closed
  | .free => .free
  | .active _ => .active
  | .vacating _ v => match v.attempt with
    | .first => .vacating1
    | .second => .vacating2
  | .stuck _ => .stuck

/-- The figures of the QUERY-STATUS reply, in the order of R190. -/
structure StatusInfo where
  localTime : Time
  emergencyLength : Nat
  priorityLength : Nat
  generalLength : Nat
  actionFill : Nat
  statusFill : Nat
  statusLost : Nat
  emergencyFull : Nat
  gapCount : Nat
  checkCount : Nat
  overrunCount : Nat
  guardLock : Bool
  surgeOpen : Bool
  surgeFloor : Nat
  surgeRemaining : Nat
  heldIndex : Option ScreenIndex
  serviceDeferred : Bool
  passDeferred : Bool
  expiryPending : Bool
  oldestEmergency : Option Tag
  settings : Settings
deriving DecidableEq, Repr

/-- The counts of a sector's slots by state (R191, item 13). -/
structure SlotCounts where
  closed : Nat
  free : Nat
  active : Nat
  vacating : Nat
  stuck : Nat
deriving DecidableEq, Repr

/-- The replies (R182, section 10.6). A reject names the request it answers, none for a frame of unknown kind. -/
inductive Reply where
  | reject (about : Option RequestKind) (code : RejectCode) (field : Octet) (tag : Tag)
  | granted (tag : Tag) (place : Place) (cls : CallClass) (preemptible : Bool)
  | queued (tag : Tag) (cls : CallClass) (position : Nat) (preempting : Bool)
  | merged (tag existing : Tag) (mergedCount position : Nat) (earmark : Bool)
  | refused (tag : Tag) (reason : RefusalReason) (hint : Nat)
  | released (tag : Tag) (place : Place) (former : SlotCode)
  | cancelled (tag : Tag) (cls : CallClass) (earmarkDropped : Bool)
  | sectorAccepted (about : RequestKind) (sector : SectorId) (state : SectorState)
  | screenAccepted (about : RequestKind) (index : ScreenIndex)
  | levelAccepted (level : LevelId)
  | accepted (about : RequestKind)
  | surgeAccepted (about : RequestKind) (floor : LevelId) (remaining : Nat)
  | audited (sector : SectorId) (matched mismatch : Nat) (found : Option (SlotCode × Tag))
  | status (info : StatusInfo)
  | sectorInfo (sector : SectorId) (info : Sector) (counts : SlotCounts)
  | slotsInfo (sector : SectorId) (first : SlotId) (records : List Slot)
  | listInfo (cls : CallClass) (start length : Nat) (entries : List Waiting)
  | screenInfo (index : ScreenIndex) (entry : ScreenEntry) (held : Option ScreenContent)
  | levelsInfo (activePeriod stagedPeriod : Nat) (active staged : Table LevelRow 8)
  | done (emergency priority general : Nat)
deriving DecidableEq, Repr

/-! ## Codes (section 10.6) -/

/-- The class codes. -/
def CallClass.code : CallClass → Octet
  | .emergency => 1
  | .priority => 2
  | .general => 3

/-- The class that a class code names. -/
def CallClass.ofCode (o : Octet) : Option CallClass :=
  if o = 1 then some .emergency else if o = 2 then some .priority else if o = 3 then some .general else none

/-- The sector state codes. -/
def SectorState.code : SectorState → Octet
  | .disabled => 0
  | .opened => 1
  | .draining => 2
  | .drained => 3

/-- The slot state codes. -/
def SlotCode.code : SlotCode → Octet
  | .closed => 0
  | .free => 1
  | .active => 2
  | .vacating1 => 3
  | .vacating2 => 4
  | .stuck => 5

/-- The vote codes. -/
def Vote.code : Vote → Octet
  | .up => 1
  | .hold => 2
  | .down => 3

/-- The EXPIRED cause codes. -/
def ExpiredCause.code : ExpiredCause → Octet
  | .timeout => 1
  | .displaced => 2

/-- The SURGE event codes. -/
def SurgeEvent.code : SurgeEvent → Octet
  | .opened => 1
  | .closing => 2
  | .closed => 3

/-- The attempt as a PREEMPT carries it. -/
def Attempt.code : Attempt → Octet
  | .first => 1
  | .second => 2

/-- The general list policy codes. -/
def ListPolicy.code : ListPolicy → Octet
  | .protect => 1
  | .displace => 2

/-- The reject codes. -/
def RejectCode.code : RejectCode → Octet
  | .badField => 0x01
  | .badLength => 0x02
  | .unknownKind => 0x03
  | .unknownTag => 0x04
  | .duplicateTag => 0x05
  | .sectorDisabled => 0x06
  | .notActive => 0x07
  | .notWaiting => 0x08
  | .notOpen => 0x09
  | .busy => 0x0A
  | .writeDenied => 0x0B
  | .locked => 0x0C

/-- The refusal reason codes. -/
def RefusalReason.code : RefusalReason → Octet
  | .barred _ _ => 1
  | .throttled => 2
  | .listFull _ => 3
  | .draining _ => 4
  | .emergencyFull => 5

/-- The class a refusal carries (R60), none for BARRED. -/
def RefusalReason.cls : RefusalReason → Option CallClass
  | .barred _ _ => none
  | .throttled => some .general
  | .listFull c => some c
  | .draining c => some c
  | .emergencyFull => some .emergency

/-! ## Reports as octets (section 10.6, Reports) -/

/-- A slot as two octets, sector then slot. -/
def placeOctets (p : Place) : List Octet := [octet p.1.val, octet p.2.val]

/-- The kind octet of an action report. -/
def ActionReport.kind : ActionReport → Octet
  | .grant .. => 0xC1
  | .preempt .. => 0xC2
  | .withdraw .. => 0xC3
  | .expired .. => 0xC4
  | .stuck .. => 0xC5

/-- The body of an action report. -/
def ActionReport.body : ActionReport → List Octet
  | .grant tag p cls waited => octets4 tag ++ placeOctets p ++ [cls.code] ++ octets4 waited
  | .preempt tag p a => octets4 tag ++ placeOctets p ++ [a.code]
  | .withdraw tag p => octets4 tag ++ placeOctets p
  | .expired tag cls cause waited hint => octets4 tag ++ [cls.code, cause.code] ++ octets4 waited ++ octetsNat2 hint
  | .stuck tag p => octets4 tag ++ placeOctets p

/-- The kind octet of a status report. -/
def StatusReport.kind : StatusReport → Octet
  | .level .. => 0xD1
  | .surge .. => 0xD2
  | .drained .. => 0xD3
  | .noisy .. => 0xD4

/-- The body of a status report. -/
def StatusReport.body : StatusReport → List Octet
  | .level s l pct time => [octet s.val, octet l.val, octet pct] ++ octetsNat2 time
  | .surge e f r => [e.code, octet f.val] ++ octetsNat2 r
  | .drained s => [octet s.val]
  | .noisy g c o => octetsNat2 g ++ octetsNat2 c ++ octetsNat2 o

/-! ## Replies as octets -/

/-- The request a reply answers, none for a frame of unknown kind. -/
def Reply.about : Reply → Option RequestKind
  | .reject k _ _ _ => k
  | .granted .. => some .admitCall
  | .queued .. => some .admitCall
  | .merged .. => some .admitCall
  | .refused .. => some .admitCall
  | .released .. => some .release
  | .cancelled .. => some .cancel
  | .sectorAccepted k _ _ => some k
  | .screenAccepted k _ => some k
  | .levelAccepted _ => some .levelSet
  | .accepted k => some k
  | .surgeAccepted k _ _ => some k
  | .audited .. => some .audit
  | .status _ => some .queryStatus
  | .sectorInfo .. => some .querySector
  | .slotsInfo .. => some .querySlots
  | .listInfo .. => some .queryList
  | .screenInfo .. => some .queryScreen
  | .levelsInfo .. => some .queryLevels
  | .done .. => some .restart

/-- The reply's kind: the request's kind with its high bit set, 0xFF for a frame of unknown kind (R182). -/
def Reply.kind (r : Reply) : Octet :=
  match r.about with
  | some k => k.code ||| 0x80
  | none => 0xFF

/-- The octets of a slot record in a QUERY-SLOTS reply (R192): slot state; class; preemptible; origin sector; tag; admit time;
vacate deadline; beneficiary tag. -/
def slotOctets (x : Slot) : List Octet :=
  let call (c : Call) : List Octet :=
    [c.cls.code, octetOfBool c.preemptible, octet c.origin.val] ++ octets4 c.tag ++ octets4 c.admitTime
  match x with
  | .closed => x.code.code :: List.replicate 19 0
  | .free => x.code.code :: List.replicate 19 0
  | .active c => [x.code.code] ++ call c ++ List.replicate 8 0
  | .vacating c v => [x.code.code] ++ call c ++ octets4 v.deadline ++ octets4 (v.beneficiary.getD 0)
  | .stuck c => [x.code.code] ++ call c ++ List.replicate 8 0

/-- The octets of an entry in a QUERY-LIST reply (R193). -/
def waitingOctets (e : Waiting) : List Octet :=
  octets4 e.tag ++ [octet e.sector.val] ++ octets4 e.key ++ [octetOfBool e.preemptible] ++ octets4 e.arrival ++
    octets4 e.deadline ++
    (if e.cls = .emergency then
      [octet e.merged, octetOfBool e.escalated] ++
        (match e.earmark with
        | some p => [1] ++ placeOctets p
        | none => [0, 0, 0])
    else [0, 0, 0, 0, 0])

/-- The eleven octets of a screening entry's stored fields or of its held copy (R194). -/
def screenOctets (c : ScreenContent) : List Octet :=
  [octetOfBool c.enabled] ++ octets3 (c.matchValue.setWidth 24) ++ octets3 (c.mask.setWidth 24) ++
    (match c.action with
    | .assign cls p => [1, cls.code, octetOfBool p, 0]
    | .bar r => [2, 0, 0, octet r.val])

/-- The eight octets of a level table row (R195). -/
def levelRowOctets (r : LevelRow) : List Octet :=
  octetsNat2 r.threshold ++ [octet r.refill, octet r.barPct] ++ octetsNat2 r.barTime ++ octetsNat2 r.base

/-- The three neighbour octets of a QUERY-SECTOR reply, 0 beyond the count (R191). -/
def neighbourOctets (l : List SectorId) : List Octet :=
  (l.map (fun (s : SectorId) => octet s.val) ++ [0, 0, 0]).take 3

/-- The body of a reply: the reject body of R182, or the result octet 0x00 and the success layout of its request. -/
def Reply.body : Reply → List Octet
  | .reject _ code field tag => [code.code, field] ++ octets4 tag
  | .granted tag p cls pre =>
    [0, 1] ++ octets4 tag ++ placeOctets p ++ [cls.code, octetOfBool pre] ++ List.replicate 11 0
  | .queued tag cls pos pre =>
    [0, 2] ++ octets4 tag ++ [0, 0, cls.code, octetOfBool pre, octet pos] ++ List.replicate 10 0
  | .merged tag existing count pos earmark =>
    [0, 3] ++ octets4 tag ++ [0, 0, 0, octetOfBool earmark, octet pos, octet count] ++ octets4 existing ++
      List.replicate 5 0
  | .refused tag reason hint =>
    [0, 4] ++ octets4 tag ++ [0, 0, (match reason.cls with | some c => c.code | none => 0), 0, 0, 0, 0, 0, 0, 0, reason.code] ++
      (match reason with
      | .barred i c => [octet i.val, octet c.val]
      | _ => [0, 0]) ++ octetsNat2 hint
  | .released tag p former => [0] ++ octets4 tag ++ placeOctets p ++ [former.code]
  | .cancelled tag cls dropped => [0] ++ octets4 tag ++ [cls.code, octetOfBool dropped]
  | .sectorAccepted _ s st => [0, octet s.val, st.code]
  | .screenAccepted _ i => [0, octet i.val]
  | .levelAccepted l => [0, octet l.val]
  | .accepted _ => [0]
  | .surgeAccepted _ f r => [0, octet f.val] ++ octetsNat2 r
  | .audited s m pos found =>
    [0, octet s.val, octet m, octet pos] ++
      (match found with
      | some (c, t) => [c.code] ++ octets4 t
      | none => [0, 0, 0, 0, 0])
  | .status i =>
    [0] ++ octets4 i.localTime ++
      [octet i.emergencyLength, octet i.priorityLength, octet i.generalLength, octet i.actionFill, octet i.statusFill] ++
      octetsNat2 i.statusLost ++ octetsNat2 i.emergencyFull ++
      octetsNat2 i.gapCount ++ octetsNat2 i.checkCount ++ octetsNat2 i.overrunCount ++
      [octetOfBool i.guardLock, octetOfBool i.surgeOpen, octet i.surgeFloor] ++ octetsNat2 i.surgeRemaining ++
      [(match i.heldIndex with | some n => octet n.val | none => 0xFF), octetOfBool i.serviceDeferred,
        octetOfBool i.passDeferred, octetOfBool i.expiryPending] ++
      octets4 (i.oldestEmergency.getD 0) ++
      [octet i.settings.generalWait, octet i.settings.priorityWait, octet i.settings.emergencyWait,
        octet i.settings.escalationTime] ++
      octetsNat2 i.settings.vacateTimeout ++ octetsNat2 i.settings.repeatWindow ++ octetsNat2 i.settings.jitter ++
      [i.settings.policy.code]
  | .sectorInfo s r n =>
    [0, octet s.val, r.state.code, octet r.capacity, octet r.generalGuard, octet r.priorityGuard,
      octet r.neighbours.length] ++ neighbourOctets r.neighbours ++
      [octet r.weight, octet r.depth, octet r.tokens] ++ octetsNat2 r.pressure ++
      [octet r.level.val, r.votes.oldest.code, r.votes.middle.code, r.votes.newest.code,
        octet n.closed, octet n.free, octet n.active, octet n.vacating, octet n.stuck]
  | .slotsInfo s f l => [0, octet s.val, octet f.val, octet l.length] ++ l.flatMap slotOctets
  | .listInfo c start n l => [0, c.code, octet start, octet n, octet l.length] ++ l.flatMap waitingOctets
  | .screenInfo i e held =>
    [0, octet i.val] ++ screenOctets e.content ++ octetsNat2 e.hits ++
      (match held with
      | some c => [1] ++ screenOctets c
      | none => List.replicate 12 0)
  | .levelsInfo a b t u =>
    [0] ++ octetsNat2 a ++ octetsNat2 b ++ t.toList.flatMap levelRowOctets ++ u.toList.flatMap levelRowOctets
  | .done e p g => [0, octet e, octet p, octet g]

end Sys2Proof.Machine
end

