-- ==== Sys2Proof/Machine/State.lean ====
section
/-! DEFINITION. The state of the MA-2416, its faults and refusals, and the state after reset. Every field cites the rule that gives
it; INVENTORY.md lists them with widths and reset values. -/

namespace Sys2Proof.Machine

/-- The line rates of R170. -/
inductive Rate where
  | r460800 | r921600 | r1843200 | r3686400
deriving DecidableEq, Repr

/-- The frame receiver (section 10.3): its state and the octets it has collected. In BODY, `n` is the length octet and `got` the
kind octet and the body so far; in CHECK, `got` is the whole of them and `first` the first check octet once it has come. -/
inductive Receiver where
  | hunt
  | length
  | body (n : Nat) (got : List Octet)
  | check (got : List Octet) (first : Option Octet)
deriving DecidableEq, Repr

/-- Where the frame in transmission came from (R166). -/
inductive Source where
  | action | reply | status
deriving DecidableEq, Repr

/-- The frame in transmission (R158, R183): its source, its octets as built at its beginning, and the whole milliseconds since
then (log 9). -/
structure Sending where
  source : Source
  octets : List Octet
  elapsed : Nat
deriving DecidableEq, Repr

/-- The link port (00_scope.md, "Blocks"; R157 to R184). -/
structure LinkPort where
  /-- The sampled rate (R170). -/
  rate : Rate
  /-- The frame receiver (R175). -/
  receiver : Receiver
  /-- The stop bit of the last character read low: the receiver waits for the line to return high (R171). -/
  lineLow : Bool
  /-- The gap timer, in whole milliseconds of local time since the last octet of a frame (R176; log 9). -/
  gapTicks : Nat
  /-- The noise run count (R178). -/
  noiseRun : Nat
  /-- The GAP counter (R179). -/
  gapCount : Nat
  /-- The CHECK counter (R179). -/
  checkCount : Nat
  /-- The OVERRUN counter (R179). -/
  overrunCount : Nat
  /-- The request queue, oldest first (R180). -/
  requestQueue : List Frame
  /-- The reply queue, oldest first (R182). -/
  replyQueue : List Reply
  /-- The action lane, oldest first (R157). -/
  actionLane : List ActionReport
  /-- The status lane, oldest first (R157). -/
  statusLane : List StatusReport
  /-- The status-lost count (R165). -/
  statusLost : Nat
  /-- The frame in transmission (R158). -/
  sending : Option Sending
  /-- The taken level of THOLD, true for asserted (R172). -/
  thold : Bool
deriving DecidableEq, Repr

/-- The state of the part. -/
structure State where
  /-- Local time (R146). -/
  localTime : Time
  /-- Whether the part is held in reset (R198). -/
  inReset : Bool
  /-- The link port. -/
  link : LinkPort
  /-- The screening table and its edit hold (R21). -/
  screening : Screening
  /-- The sector table (R1). -/
  sectors : Table Sector 16
  /-- The slot table (R5). -/
  slots : Table (Table Slot 24) 16
  /-- The emergency list, oldest first (R63). -/
  emergency : List Waiting
  /-- The priority list, oldest first (R63). -/
  priority : List Waiting
  /-- The general list, oldest first (R63). -/
  general : List Waiting
  /-- The EMERGENCY-FULL count (R62). -/
  emergencyFull : Nat
  /-- The service-deferred mark (R75). -/
  serviceDeferred : Bool
  /-- The victim-pass-deferred mark (R94). -/
  passDeferred : Bool
  /-- The room-appeared signal now being answered found the service-deferred mark set, and the retry is still to be made (R76;
  log 8). -/
  retrySignal : Bool
  /-- The room-appeared signal now being answered found the victim-pass-deferred mark set, and the pass is still to be run (R76;
  log 8). -/
  passSignal : Bool
  /-- The load governor's tables, periods, next boundary and surge window (R113, R115, R128). -/
  governor : Governor
  /-- The repeat-caller table, least recently recorded first (R135). -/
  repeatTable : List RepeatEntry
  /-- The settings of R148. -/
  settings : Settings
  /-- The guard lock (R185). -/
  guardLock : Bool
  /-- The model's own: how many free choices among events of one instant have been made (log 3). -/
  choices : Nat
  /-- The model's own: the commands that wait, first in, first out (log 1). -/
  pending : List Instr
deriving DecidableEq, Repr

/-- The part has no faults: no condition stops it (00_scope.md, "Outcomes of a request"; R159, R182), so no meaning of the model
raises one. Safe. -/
inductive Fault : Type
deriving DecidableEq, Repr

/-- Why a command has no meaning. -/
inductive Refusal : Type where
  /-- Raised by `exec` for a command whose meaning is not written yet; no arm of this model raises it. Safe: the machine stops. -/
  | notModelled (mnemonic : String)
deriving DecidableEq, Repr

/-- The link port at power-on reset (R169, R184). The rate is sampled at the end of reset; until then the model shows the rate of
both straps low (DESIGN CHOICE, unsafe, log 7). -/
def LinkPort.powerOn : LinkPort :=
  { rate := .r460800, receiver := .hunt, lineLow := false, gapTicks := 0, noiseRun := 0, gapCount := 0,
    checkCount := 0, overrunCount := 0, requestQueue := [], replyQueue := [], actionLane := [], statusLane := [], statusLost := 0, sending := none,
    thold := false }

/-- The governor at power-on reset (R134). -/
def Governor.powerOn : Governor :=
  { activePeriod := 1000, stagedPeriod := 1000, activeTable := LevelRow.defaults, stagedTable := LevelRow.defaults,
    nextBoundary := 1000, surge := none }

/-- The part held in power-on reset (R198, item 1): every block stands at the power-on values that its own rules give. -/
def State.powerOn : State :=
  { localTime := 0, inReset := true, link := LinkPort.powerOn,
    screening := { entries := Table.replicate 32 ScreenEntry.powerOn, hold := none },
    sectors := Table.replicate 16 Sector.powerOn,
    slots := Table.replicate 16 (Table.replicate 24 Slot.closed),
    emergency := [], priority := [], general := [], emergencyFull := 0,
    serviceDeferred := false, passDeferred := false, retrySignal := false, passSignal := false,
    governor := Governor.powerOn, repeatTable := [], settings := Settings.powerOn, guardLock := false,
    choices := 0, pending := [] }

/-- The part right after reset: the end of reset has passed with both straps low (R198, item 3; DESIGN CHOICE for the straps,
unsafe, log 7), and no command waits. -/
def State.reset : State := { State.powerOn with inReset := false }

end Sys2Proof.Machine
end

