-- ==== Sys2Proof/Machine/Operands.lean ====
section
/-! DEFINITION. Operand forms: times and their comparison (R147), numbers and codes of request fields, and the field checks that
name the first offending field in message order (R181, R182). -/

namespace Sys2Proof.Machine

/-! ## Time (R146, R147) -/

/-- The signed difference n - t of two times (R147). -/
def signedDiff (n t : Time) : Int := (n - t).toInt

/-- The time t is reached at local time n (R147). -/
def reached (t n : Time) : Bool := decide (0 ≤ signedDiff n t)

/-- The time that many milliseconds after n, modulo 2^32 (R146). -/
def after (n : Time) (ms : Nat) : Time := n + BitVec.ofNat 32 ms

/-! ## Numbers of requests and the records they name -/

/-- The 16 sectors, lowest first. -/
def allSectors : List SectorId := [0, 1, 2, 3, 4, 5, 6, 7, 8, 9, 10, 11, 12, 13, 14, 15]

/-- The 24 slots of a sector, lowest first. -/
def allSlots : List SlotId :=
  [0, 1, 2, 3, 4, 5, 6, 7, 8, 9, 10, 11, 12, 13, 14, 15, 16, 17, 18, 19, 20, 21, 22, 23]

/-- The eight levels, lowest first. -/
def allLevels : List LevelId := [0, 1, 2, 3, 4, 5, 6, 7]

/-- The 32 screening entries in the order of a scan, from index 31 down to index 0 (R24). -/
def scanOrder : List ScreenIndex :=
  [31, 30, 29, 28, 27, 26, 25, 24, 23, 22, 21, 20, 19, 18, 17, 16, 15, 14, 13, 12, 11, 10, 9, 8, 7, 6, 5, 4, 3, 2, 1, 0]

/-- The slots of one sector as places, lowest first. -/
def placesOf (t : SectorId) : List Place := allSlots.map (fun n => (t, n))

/-- Every slot, the lower sector first and within a sector the lower slot first (00_scope.md, "Sectors and slots"). -/
def allPlaces : List Place := allSectors.flatMap placesOf

/-- The sector that a checked sector octet (0..15) names. -/
def toSector (o : Octet) : SectorId := ⟨o.toNat % 16, Nat.mod_lt _ (by decide)⟩

/-- The slot that a checked slot octet (0..23) names. -/
def toSlot (o : Octet) : SlotId := ⟨o.toNat % 24, Nat.mod_lt _ (by decide)⟩

/-- The level that a checked level octet (0..7) names. -/
def toLevel (o : Octet) : LevelId := ⟨o.toNat % 8, Nat.mod_lt _ (by decide)⟩

/-- The screening entry that a checked index octet (0..31) names. -/
def toScreenIndex (o : Octet) : ScreenIndex := ⟨o.toNat % 32, Nat.mod_lt _ (by decide)⟩

/-! ## Field checks

A check list pairs each field number (R182: numbered from 1 in message order) with whether the field is in range. -/

/-- The number of the first offending field in message order, none when every check holds (R181, step 4). -/
def fieldFault (checks : List (Nat × Bool)) : Option Nat :=
  (checks.find? (fun c => !c.2)).map (fun c => c.1)

/-- A yes/no octet holds 0 or 1 (R181, step 4). -/
def yesNo (o : Octet) : Bool := decide (o.toNat ≤ 1)

/-- The field checks of ADMIT (R38, item 1). -/
def admitChecks (f : AdmitFields) : List (Nat × Bool) :=
  [(1, decide (f.tag ≠ 0)), (2, decide (f.sector.toNat ≤ 15)), (5, decide (f.accessClass.toNat ≤ 15)),
    (6, yesNo f.cause)]

/-- The neighbour octets of a SECTOR-SET within its neighbour count (R10). -/
def listedNeighbours (f : SectorSetFields) : List Octet :=
  [f.neighbour1, f.neighbour2, f.neighbour3].take f.neighbourCount.toNat

/-- The sector check (R9) and the range checks (R10, item 1) of SECTOR-SET; a neighbour octet beyond the count is not checked. -/
def sectorSetRange (f : SectorSetFields) : List (Nat × Bool) :=
  [(1, decide (f.sector.toNat ≤ 15)), (2, decide (f.capacity.toNat ≤ 24)), (3, decide (f.generalGuard.toNat ≤ 24)),
    (4, decide (f.priorityGuard.toNat ≤ 24)), (5, decide (f.neighbourCount.toNat ≤ 3)),
    (6, decide (f.neighbourCount.toNat < 1 ∨ f.neighbour1.toNat ≤ 15)),
    (7, decide (f.neighbourCount.toNat < 2 ∨ f.neighbour2.toNat ≤ 15)),
    (8, decide (f.neighbourCount.toNat < 3 ∨ f.neighbour3.toNat ≤ 15)),
    (9, decide (1 ≤ f.weight.toNat ∧ f.weight.toNat ≤ 16)), (10, decide (1 ≤ f.depth.toNat))]

/-- The consistency checks of SECTOR-SET (R10, item 2). Of two equal neighbours the later one is the entry at fault (DEDUCED,
unsafe, log 13). -/
def sectorSetConsistency (f : SectorSetFields) : List (Nat × Bool) :=
  [(4, decide (f.priorityGuard.toNat ≤ f.generalGuard.toNat)),
    (6, decide (f.neighbourCount.toNat < 1 ∨ f.neighbour1 ≠ f.sector)),
    (7, decide (f.neighbourCount.toNat < 2 ∨ f.neighbour2 ≠ f.sector ∧ f.neighbour2 ≠ f.neighbour1)),
    (8, decide (f.neighbourCount.toNat < 3 ∨
      f.neighbour3 ≠ f.sector ∧ f.neighbour3 ≠ f.neighbour1 ∧ f.neighbour3 ≠ f.neighbour2))]

/-- The range checks of SCREEN-SET (R29, item 1): class and preemptible are read for ASSIGN only, the reason code for BAR only. -/
def screenSetRange (f : ScreenSetFields) : List (Nat × Bool) :=
  [(1, decide (f.index.toNat ≤ 31)), (2, yesNo f.enabled), (3, decide (f.matchValue.toNat < 2 ^ 21)),
    (4, decide (f.mask.toNat < 2 ^ 21)), (5, decide (f.action = 1 ∨ f.action = 2)),
    (6, decide (f.action = 1 → (CallClass.ofCode f.cls).isSome)),
    (7, decide (f.action = 1 → yesNo f.preemptible)),
    (8, decide (f.action = 2 → 1 ≤ f.reason.toNat ∧ f.reason.toNat ≤ 15))]

/-- The field checks of LEVEL-SET (R114). -/
def levelSetChecks (f : LevelSetFields) : List (Nat × Bool) :=
  [(1, decide (f.level.toNat ≤ 7)),
    (2, decide (f.threshold.toNat ≤ 4095 ∧ (f.level = 0 → f.threshold = 0))),
    (3, decide (f.refill.toNat ≤ 255)),
    (4, decide (f.barPct.toNat ≤ 100 ∧ f.barPct.toNat % 5 = 0)),
    (5, decide (4 ≤ f.barTime.toNat ∧ f.barTime.toNat ≤ 512)), (6, decide (f.base.toNat ≤ 4095))]

/-- The setting checks of TIMER-SET (R148). -/
def timerSetChecks (f : TimerSetFields) : List (Nat × Bool) :=
  [(1, decide (1 ≤ f.generalWait.toNat)), (2, decide (1 ≤ f.priorityWait.toNat)),
    (3, decide (1 ≤ f.emergencyWait.toNat)), (4, decide (f.escalationTime.toNat ≤ 60)),
    (5, decide (200 ≤ f.vacateTimeout.toNat ∧ f.vacateTimeout.toNat ≤ 10000)),
    (6, decide (1 ≤ f.repeatWindow.toNat ∧ f.repeatWindow.toNat ≤ 600)), (7, decide (f.jitter.toNat ≤ 4095)),
    (8, decide (f.policy = 1 ∨ f.policy = 2)),
    (9, decide (100 ≤ f.epochPeriod.toNat ∧ f.epochPeriod.toNat ≤ 5000 ∧ f.epochPeriod.toNat % 100 = 0))]

/-- The field checks of SURGE-OPEN (R129). -/
def surgeOpenChecks (f : SurgeOpenFields) : List (Nat × Bool) :=
  [(1, decide (1 ≤ f.duration.toNat ∧ f.duration.toNat ≤ 3600)), (2, decide (f.floor.toNat ≤ 7))]

/-- The slot checks of an AUDIT's pairs, the i-th pair's slot being field 2i + 1 (R182, R187). -/
def auditPairChecks : Nat → List AuditPair → List (Nat × Bool)
  | _, [] => []
  | i, p :: ps => (2 * i + 1, decide (p.slot.toNat ≤ 23)) :: auditPairChecks (i + 1) ps

/-- The field checks of AUDIT (R187). -/
def auditChecks (f : AuditFields) : List (Nat × Bool) :=
  (1, decide (f.sector.toNat ≤ 15)) :: auditPairChecks 1 f.pairs

/-- The field checks of QUERY-SLOTS (R192). -/
def querySlotsChecks (f : QuerySlotsFields) : List (Nat × Bool) :=
  [(1, decide (f.sector.toNat ≤ 15)), (2, decide (f.firstSlot.toNat ≤ 23))]

/-- The field checks of QUERY-LIST (R193). -/
def queryListChecks (f : QueryListFields) : List (Nat × Bool) :=
  [(1, (CallClass.ofCode f.cls).isSome), (2, decide (1 ≤ f.start.toNat))]

/-- The screening key of an ADMIT: service code x 32 + access class x 2 + cause flag (R22). -/
def screenKey (f : AdmitFields) : ScreenKey :=
  BitVec.ofNat 21 (f.service.toNat * 32 + f.accessClass.toNat * 2 + f.cause.toNat)

/-- The written action fields of a SCREEN-SET (R29, R30). -/
def writtenAction (f : ScreenSetFields) : ScreenAction :=
  if f.action = 1 then .assign ((CallClass.ofCode f.cls).getD .general) (f.preemptible == 1)
  else .bar ⟨f.reason.toNat % 16, Nat.mod_lt _ (by decide)⟩

/-- The written contents of a SCREEN-SET, its match value reduced by its mask (R23, R30). -/
def writtenContent (f : ScreenSetFields) : ScreenContent :=
  { enabled := f.enabled == 1
    matchValue := f.matchValue.setWidth 21 &&& f.mask.setWidth 21
    mask := f.mask.setWidth 21
    action := writtenAction f }

end Sys2Proof.Machine
end

