-- ==== Sys2Proof/Machine/Ops.lean ====
section
/-! DEFINITION. The named operations over the state: reading and writing sector and slot records, the waiting lists, held tags
(R39), the room check and the placing of action reports (R160), the placing of status reports (R164), replies (R182). -/

namespace Sys2Proof.Machine

/-! ## Sector and slot records -/

/-- The record of a sector (R1). -/
def State.sector (s : State) (t : SectorId) : Sector := s.sectors.get t

/-- The state with another record for a sector. -/
def State.setSector (s : State) (t : SectorId) (r : Sector) : State := { s with sectors := s.sectors.set t r }

/-- The record of a slot (R5). -/
def State.slot (s : State) (t : SectorId) (n : SlotId) : Slot := (s.slots.get t).get n

/-- The state with another record for a slot. -/
def State.setSlot (s : State) (t : SectorId) (n : SlotId) (x : Slot) : State :=
  { s with slots := s.slots.set t ((s.slots.get t).set n x) }

/-- The call part of a slot, where its state carries one (R5). -/
def Slot.call? : Slot → Option Call
  | .closed => none
  | .free => none
  | .active c => some c
  | .vacating c _ => some c
  | .stuck c => some c

/-- The slot counts in its sector's occupancy: it is ACTIVE, VACATING or STUCK (R6). -/
def Slot.occupied (x : Slot) : Bool := x.call?.isSome

/-- The slot is FREE. -/
def Slot.isFree (x : Slot) : Bool := decide (x = .free)

/-- The slot is CLOSED. -/
def Slot.isClosed (x : Slot) : Bool := decide (x = .closed)

/-- The slot is ACTIVE. -/
def Slot.isActive : Slot → Bool
  | .active _ => true
  | _ => false

/-- The slot is VACATING. -/
def Slot.isVacating : Slot → Bool
  | .vacating _ _ => true
  | _ => false

/-- The slot is STUCK. -/
def Slot.isStuck : Slot → Bool
  | .stuck _ => true
  | _ => false

/-- The number of a sector's slots that a test holds of, over all 24 slots. -/
def State.countSlots (s : State) (t : SectorId) (p : Slot → Bool) : Nat := (s.slots.get t).toList.countP p

/-- A sector's occupancy, over all 24 slots whatever the capacity (R6). -/
def State.occupancy (s : State) (t : SectorId) : Nat := s.countSlots t Slot.occupied

/-- A sector's FREE count (R6). -/
def State.freeCount (s : State) (t : SectorId) : Nat := s.countSlots t Slot.isFree

/-- The sector is OPEN. -/
def State.isOpen (s : State) (t : SectorId) : Bool := decide ((s.sector t).state = .opened)

/-- The effective guard of a class (R2); emergency calls have none. -/
def Sector.effectiveGuard (r : Sector) : CallClass → Nat
  | .emergency => 0
  | .priority => min r.priorityGuard r.capacity
  | .general => min r.generalGuard r.capacity

/-- A class passes its guard test in a sector: its FREE count is greater than the class's effective guard (R2). -/
def State.passesGuard (s : State) (c : CallClass) (t : SectorId) : Bool :=
  decide ((s.sector t).effectiveGuard c < s.freeCount t)

/-- The lowest-index FREE slot of a sector (R43). -/
def State.lowestFree (s : State) (t : SectorId) : Option SlotId := allSlots.find? (fun n => (s.slot t n).isFree)

/-! ## Waiting lists -/

/-- The waiting list of a class (R63). -/
def State.waiting (s : State) : CallClass → List Waiting
  | .emergency => s.emergency
  | .priority => s.priority
  | .general => s.general

/-- The state with another waiting list for a class. -/
def State.setWaiting (s : State) (c : CallClass) (l : List Waiting) : State :=
  match c with
  | .emergency => { s with emergency := l }
  | .priority => { s with priority := l }
  | .general => { s with general := l }

/-- How many entries the list of a class holds at most (R63). -/
def listPlaces : CallClass → Nat
  | .emergency => Config.emergencyPlaces
  | .priority => Config.priorityPlaces
  | .general => Config.generalPlaces

/-- An entry joins its list at the tail (R63). -/
def State.appendWaiting (s : State) (c : CallClass) (e : Waiting) : State := s.setWaiting c (s.waiting c ++ [e])

/-- The entry with this tag leaves its list, and the entries behind it close up (R63). -/
def State.removeWaiting (s : State) (c : CallClass) (tag : Tag) : State :=
  s.setWaiting c ((s.waiting c).eraseP (fun e => e.tag == tag))

/-- The waiting entry with this tag in the list of a class. -/
def State.entryIn (s : State) (c : CallClass) (tag : Tag) : Option Waiting :=
  (s.waiting c).find? (fun e => e.tag == tag)

/-- The waiting entry with this tag, with the class of the list it is in. -/
def State.entryWith (s : State) (tag : Tag) : Option (CallClass × Waiting) :=
  match s.entryIn .emergency tag with
  | some e => some (.emergency, e)
  | none =>
    match s.entryIn .priority tag with
    | some e => some (.priority, e)
    | none =>
      match s.entryIn .general tag with
      | some e => some (.general, e)
      | none => none

/-- The position of the first entry of a list that a test holds of, counted from 1 at the oldest (R63). -/
def position (l : List Waiting) (p : Waiting → Bool) : Nat := l.findIdx p + 1

/-- An emergency entry is eligible for a sector: it names it, or the sector is in the neighbour list of the one it names, read at
this instant (R3, R65). -/
def State.eligible (s : State) (e : Waiting) (t : SectorId) : Bool :=
  decide (e.sector = t) || (s.sector e.sector).neighbours.contains t

/-- Some entry of the emergency list is eligible for the sector. -/
def State.emergencyStands (s : State) (t : SectorId) : Bool := s.emergency.any (fun e => s.eligible e t)

/-- Some entry of the list of a class names the sector (R65). -/
def State.named (s : State) (c : CallClass) (t : SectorId) : Bool := (s.waiting c).any (fun e => decide (e.sector = t))

/-- How many waiting entries of any class name the sector: Q of R117. -/
def State.waitingCount (s : State) (t : SectorId) : Nat :=
  let names (l : List Waiting) : Nat := l.countP (fun e => decide (e.sector = t))
  names s.emergency + names s.priority + names s.general

/-- A change to the emergency entry with this tag. -/
def State.updateEmergency (s : State) (tag : Tag) (f : Waiting → Waiting) : State :=
  { s with emergency := s.emergency.map (fun e => if e.tag = tag then f e else e) }

/-- The entry's side of an earmark, set or cleared (R88). -/
def State.setEarmark (s : State) (tag : Tag) (m : Option Place) : State :=
  s.updateEmergency tag (fun e => { e with earmark := m })

/-! ## Held tags -/

/-- The slot whose call part holds this tag (R39). -/
def State.slotWith (s : State) (tag : Tag) : Option Place :=
  allPlaces.find? (fun p => decide ((s.slot p.1 p.2).call?.map Call.tag = some tag))

/-- The part holds this tag: a waiting entry or a slot carries it (R39). -/
def State.tagHeld (s : State) (tag : Tag) : Bool := (s.entryWith tag).isSome || (s.slotWith tag).isSome

/-! ## The lanes and the reply queue -/

/-- The room check: the number of free action places (R160). -/
def State.freePlaces (s : State) : Nat := Config.actionPlaces - s.link.actionLane.length

/-- An action report is placed; the caller has found room for it (R159). -/
def State.placeAction (s : State) (r : ActionReport) : State :=
  { s with link := { s.link with actionLane := s.link.actionLane ++ [r] } }

/-- A reply joins the reply queue at the tail (R182). -/
def State.pushReply (s : State) (r : Reply) : State :=
  { s with link := { s.link with replyQueue := s.link.replyQueue ++ [r] } }

/-- A counter of 16 bits that stays at its top (R28, R62, R165, R179). -/
def bump (n : Nat) : Nat := if n < Config.counterTop then n + 1 else n

/-- A new status report takes the place of an unsent one: a LEVEL that of a LEVEL for the same sector, a SURGE that of a SURGE
(R163, R164). -/
def StatusReport.supersedes : StatusReport → StatusReport → Bool
  | .level t _ _ _, .level u _ _ _ => decide (t = u)
  | .surge .., .surge .. => true
  | _, _ => false

/-- The list with the new report at the place of the first one that it supersedes. -/
def replaceReport (r : StatusReport) : List StatusReport → List StatusReport
  | [] => []
  | o :: rest => if r.supersedes o then r :: rest else o :: replaceReport r rest

/-- The number of reports of the status lane that are in transmission: the head, or none (R158). -/
def LinkPort.statusInTransmission (k : LinkPort) : Nat :=
  match k.sending with
  | some d => if d.source = .status then 1 else 0
  | none => 0

/-- A report is offered to the status lane: replacement in place, room at the tail, or loss (R164). -/
def State.offerStatus (s : State) (r : StatusReport) : State :=
  let k := s.link
  let sent := k.statusLane.take k.statusInTransmission
  let unsent := k.statusLane.drop k.statusInTransmission
  if unsent.any (fun o => r.supersedes o) then
    { s with link := { k with statusLane := sent ++ replaceReport r unsent } }
  else if k.statusLane.length < Config.statusPlaces then
    { s with link := { k with statusLane := k.statusLane ++ [r] } }
  else { s with link := { k with statusLost := bump k.statusLost } }

/-! ## Rejects -/

/-- REJECT: the request has no effect but its reply (R182). -/
def State.reject (s : State) (k : RequestKind) (code : RejectCode) (field : Nat) (tag : Tag) : State :=
  s.pushReply (.reject (some k) code (octet field) tag)

end Sys2Proof.Machine
end

