-- ==== Sys2Proof/Machine/Flags.lean ====
section
/-! DEFINITION. The flags and figures that the part computes from its state: RHOLD (R180), the pending-expiry flag (R154), slot
counts (R191), the surge window's remaining time (R128), broadcast values (R126), and the figures of QUERY-STATUS (R190). -/

namespace Sys2Proof.Machine

/-- RHOLD, true for asserted: the request queue holds 6 or more frames (R180). -/
def State.rhold (s : State) : Bool := decide (Config.rholdFrames ≤ s.link.requestQueue.length)

/-- TXD is carrying a frame; otherwise the line stands high (R172). -/
def State.txBusy (s : State) : Bool := s.link.sending.isSome

/-- A deadline of this condition is pending for room (R154). -/
def Watch.pending : Watch → Bool
  | .watched => false
  | .pendingRoom => true
  | .signalled => true

/-- The slot's vacate expiry is pending for room. -/
def Slot.expiryPending : Slot → Bool
  | .vacating _ v => v.watch.pending
  | _ => false

/-- At least one expiry is pending for room (R154). -/
def State.expiryPending (s : State) : Bool :=
  s.emergency.any (fun e => e.watch.pending) || s.priority.any (fun e => e.watch.pending) ||
    s.general.any (fun e => e.watch.pending) || allPlaces.any (fun p => (s.slot p.1 p.2).expiryPending)

/-- The counts of a sector's slots by state, over all 24 slots (R191, item 13). -/
def State.slotCounts (s : State) (t : SectorId) : SlotCounts :=
  { closed := s.countSlots t Slot.isClosed
    free := s.countSlots t Slot.isFree
    active := s.countSlots t Slot.isActive
    vacating := s.countSlots t Slot.isVacating
    stuck := s.countSlots t Slot.isStuck }

/-- The surge window's remaining time in milliseconds: the close time less now (R128), 0 once the close time is reached
(DESIGN CHOICE, unsafe, log 19). -/
def surgeRemainingMs (w : Surge) (now : Time) : Nat := (signedDiff w.close now).toNat

/-- The remaining time in seconds, rounded up (R128). -/
def surgeRemaining (w : Surge) (now : Time) : Nat := (surgeRemainingMs w now + 999) / 1000

/-- The closing point, 10000 ms before the close time (R128). -/
def closingPointOf (w : Surge) : Time := w.close - BitVec.ofNat 32 10000

/-- The row of a level table for a level (R113). -/
def rowOf (table : Table LevelRow 8) (l : LevelId) : LevelRow := table.get l

/-- The broadcast values of a sector under a level table: level, barPct and barTime (R126). -/
def broadcast (table : Table LevelRow 8) (l : LevelId) : LevelId × Nat × Nat :=
  (l, (rowOf table l).barPct, (rowOf table l).barTime)

/-- The LEVEL report of a sector with its broadcast values as they stand (R126). -/
def State.levelReport (s : State) (t : SectorId) : StatusReport :=
  let l := (s.sector t).level
  .level t l (rowOf s.governor.activeTable l).barPct (rowOf s.governor.activeTable l).barTime

/-- The figures of the QUERY-STATUS reply, all read at this instant (R189, R190). -/
def State.statusInfo (s : State) : StatusInfo :=
  { localTime := s.localTime
    emergencyLength := s.emergency.length
    priorityLength := s.priority.length
    generalLength := s.general.length
    actionFill := s.link.actionLane.length
    statusFill := s.link.statusLane.length
    statusLost := s.link.statusLost
    emergencyFull := s.emergencyFull
    gapCount := s.link.gapCount
    checkCount := s.link.checkCount
    overrunCount := s.link.overrunCount
    guardLock := s.guardLock
    surgeOpen := s.governor.surge.isSome
    surgeFloor := match s.governor.surge with
      | some w => w.floor.val
      | none => 0
    surgeRemaining := match s.governor.surge with
      | some w => surgeRemaining w s.localTime
      | none => 0
    heldIndex := s.screening.hold.map Hold.index
    serviceDeferred := s.serviceDeferred
    passDeferred := s.passDeferred
    expiryPending := s.expiryPending
    oldestEmergency := s.emergency.head?.map Waiting.tag
    settings := s.settings }

end Sys2Proof.Machine
end

