-- ==== Sys2Proof/Machine/Backoff.lean ====
section
/-! DEFINITION. The backoff unit: the age test (R136), the lookup (R137), the retry hint (R138) and the recording of a refusal
(R141, R142). -/

namespace Sys2Proof.Machine

/-- A repeat-caller entry is within the repeat window at this instant (R136). -/
def State.withinWindow (s : State) (r : RepeatEntry) : Bool :=
  let age := signedDiff s.localTime r.last
  decide (0 ≤ age ∧ age < (s.settings.repeatWindow * 1000 : Nat))

/-- The repeat-caller entry of a key. -/
def State.repeatEntry (s : State) (k : CallerKey) : Option RepeatEntry := s.repeatTable.find? (fun r => r.key == k)

/-- The lookup: the refusal count to use in a hint (R137). -/
def State.refusalCount (s : State) (k : CallerKey) : Nat :=
  if k = 0 then 0
  else
    match s.repeatEntry k with
    | some r => if s.withinWindow r then r.count else 0
    | none => 0

/-- The backoff base of a sector: that of its level's row in the active table (R138, items 1 and 2). -/
def State.backoffBase (s : State) (t : SectorId) : Nat := (rowOf s.governor.activeTable (s.sector t).level).base

/-- The retry hint for a caller key and a sector, in milliseconds (R138). -/
def State.retryHint (s : State) (k : CallerKey) (t : SectorId) : Nat :=
  min (s.backoffBase t * 2 ^ min (s.refusalCount k) 4 + k.toNat % (s.settings.jitter + 1)) 65535

/-- An entry joins the repeat-caller table at the tail; a full table first loses its head (R141, case 4; R142). -/
def joinRepeat (l : List RepeatEntry) (e : RepeatEntry) : List RepeatEntry :=
  (if l.length < Config.repeatPlaces then l else l.drop 1) ++ [e]

/-- A refusal is recorded for a caller key (R141). -/
def State.recordRefusal (s : State) (k : CallerKey) : State :=
  if k = 0 then s
  else
    match s.repeatEntry k with
    | some r =>
      let count := if s.withinWindow r then min (r.count + 1) 4 else 1
      { s with repeatTable := s.repeatTable.eraseP (fun x => x.key == k) ++ [⟨k, count, s.localTime⟩] }
    | none => { s with repeatTable := joinRepeat s.repeatTable ⟨k, 1, s.localTime⟩ }

end Sys2Proof.Machine
end

