-- ==== Sys2Proof/Machine/Link.lean ====
section
/-! DEFINITION. The link port: characters as sent and as received (R170, R171), the check sequence (R174), the frame receiver (R175 to R179), the
request queue (R180), the taking of a request (R181), the transmit arbiter (R166, R183) and the end of a frame (R158, R161). -/

namespace Sys2Proof.Machine

/-! ## Characters -/

/-- A bit's value: the level that at least two of its three centre samples show (R171). -/
def majority (x : CentreSamples) : Bool := (x.s7 && x.s8) || (x.s7 && x.s9) || (x.s8 && x.s9)

/-- The octet of eight data bits, least significant first (R170, R171). -/
def dataOctet (c : CharSamples) : Octet :=
  octet ((if majority c.d0 then 1 else 0) + (if majority c.d1 then 2 else 0) + (if majority c.d2 then 4 else 0) +
    (if majority c.d3 then 8 else 0) + (if majority c.d4 then 16 else 0) + (if majority c.d5 then 32 else 0) +
    (if majority c.d6 then 64 else 0) + (if majority c.d7 then 128 else 0))

/-- The levels of a character as it is sent, one for each bit time, true for high: a start bit at low level, eight data bits with
the least significant first, a stop bit at high level (R170). -/
def sentCharacter (o : Octet) : List Bool :=
  [false, o.getLsbD 0, o.getLsbD 1, o.getLsbD 2, o.getLsbD 3, o.getLsbD 4, o.getLsbD 5, o.getLsbD 6, o.getLsbD 7, true]

/-- The levels of the transmit line through a frame: its characters one after the other, with no pause (R172). -/
def Sending.levels (d : Sending) : List Bool := d.octets.flatMap sentCharacter

/-- The level of the transmit data line in a bit time, counted from the beginning of the frame in transmission; with none, and after
its last stop bit, the line stands high (R170, R172). -/
def State.txdLevel (s : State) (bit : Nat) : Bool :=
  match s.link.sending with
  | some d => (d.levels[bit]?).getD true
  | none => true

/-- The octet that a character delivers: none when its start bit reads high; the stop bit is not checked (R171). -/
def delivered (c : CharSamples) : Option Octet :=
  if majority c.start then none else some (dataOctet c)

/-! ## The check sequence -/

/-- One step of the check register: a shift left, with 0x1021 combined when the top bit was 1 (R174, item 2). -/
def crcStep (r : BitVec 16) : BitVec 16 := if r.msb then (r <<< 1) ^^^ 0x1021 else r <<< 1

/-- The check register after one octet: combined into its high eight bits, then stepped eight times (R174, item 2). -/
def crcOctet (r : BitVec 16) (o : Octet) : BitVec 16 :=
  crcStep (crcStep (crcStep (crcStep (crcStep (crcStep (crcStep (crcStep (r ^^^ (o ++ (0 : BitVec 8))))))))))

/-- The check sequence of a list of octets (R174). -/
def crc (l : List Octet) : BitVec 16 := l.foldl crcOctet 0xFFFF

/-- The length octet of a frame whose kind and body have these octets (R173). -/
def lengthOctet (content : List Octet) : Octet := octet content.length

/-- A frame on the line: start octet, length, kind and body, check sequence (R173). -/
def wireFrame (kind : Octet) (body : List Octet) : List Octet :=
  let content := lengthOctet (kind :: body) :: kind :: body
  0x5A :: content ++ octets2 (crc content)

/-! ## The receiver -/

/-- The three counts of a frame lost at the receiver (R179). -/
inductive LossKind where
  | gap | check
deriving DecidableEq, Repr

/-- The link counter of a loss is incremented (R179). -/
def LinkPort.countLoss (k : LinkPort) : LossKind → LinkPort
  | .gap => { k with gapCount := bump k.gapCount }
  | .check => { k with checkCount := bump k.checkCount }

/-- A frame is lost: its counter rises, the receiver returns to HUNT, and the noise run rises, with a NOISY report offered when it
rises from 2 to 3 (R178). -/
def State.loseFrame (s : State) (why : LossKind) : State :=
  let k := { s.link.countLoss why with receiver := .hunt, gapTicks := 0 }
  if k.noiseRun < 2 then { s with link := { k with noiseRun := k.noiseRun + 1 } }
  else if k.noiseRun = 2 then
    ({ s with link := { k with noiseRun := 3 } } : State).offerStatus (.noisy k.gapCount k.checkCount k.overrunCount)
  else { s with link := k }

/-- A good frame is offered to the request queue: it joins at the tail, or is discarded with OVERRUN raised when 8 are held
(R180). It ends any noise run (R178). -/
def State.arrive (s : State) (f : Frame) : State :=
  if s.link.requestQueue.length < Config.requestPlaces then
    { s with link := { s.link with noiseRun := 0, requestQueue := s.link.requestQueue ++ [f] } }
  else { s with link := { s.link with noiseRun := 0, overrunCount := bump s.link.overrunCount } }

/-- The second check octet arrives: the received octets are compared with their check sequence (R177). -/
def State.completeFrame (s : State) (got : List Octet) (hi lo : Octet) : State :=
  if crc (lengthOctet got :: got) = join2 hi lo then
    let s1 : State := { s with link := { s.link with receiver := .hunt, gapTicks := 0 } }
    match got with
    | kind :: body => s1.arrive ⟨kind, body⟩
    | [] => s1
  else s.loseFrame .check

/-- The receiver in another state, its gap timer started afresh by the octet (R176). -/
def State.setReceiver (s : State) (r : Receiver) : State :=
  { s with link := { s.link with receiver := r, gapTicks := 0 } }

/-- A length octet is in range, 1..248 (R173, R175). -/
def lengthInRange (o : Octet) : Bool := decide (1 ≤ o.toNat ∧ o.toNat ≤ 248)

/-- The character receiver waits for the line to return high, or no longer does (R171, item 3). -/
def State.setLineLow (s : State) (b : Bool) : State := { s with link := { s.link with lineLow := b } }

/-- The frame receiver takes an octet (R175). -/
def State.receiveOctet (s : State) (o : Octet) : State :=
  match s.link.receiver with
  | .hunt => if o = 0x5A then s.setReceiver .length else s
  | .length => if lengthInRange o then s.setReceiver (.body o.toNat []) else s.loseFrame .check
  | .body n got =>
    if n ≤ got.length + 1 then s.setReceiver (.check (got ++ [o]) none) else s.setReceiver (.body n (got ++ [o]))
  | .check got none => s.setReceiver (.check got (some o))
  | .check got (some hi) => s.completeFrame got hi o

/-- A character comes on the line (R171; DEDUCED, safe, log 12). While the receiver waits for the line to return high it sees no start
bit. A start bit that reads high is noise. Otherwise the octet goes to the frame receiver, and a stop bit that reads low makes the
receiver wait. -/
def State.receiveCharacter (s : State) (c : CharSamples) : State :=
  if s.link.lineLow && !c.lineReturned then s
  else
    match delivered c with
    | none => s.setLineLow false
    | some o => (s.setLineLow (!majority c.stop)).receiveOctet o

/-! ## Taking a request -/

/-- The reply queue has room, so the decoder takes frames (R181). -/
def State.replyRoom (s : State) : Bool := decide (s.link.replyQueue.length < Config.replyPlaces)

/-- The state in which a request's frame has been taken by the decoder, none when it is not taken now (R180, R181; DESIGN CHOICE,
unsafe, log 4): the frame is the head of the request queue, or the queue is empty and the frame arrives and is taken at one
instant. -/
def State.taken (s : State) (f : Frame) : Option State :=
  if s.replyRoom then
    match s.link.requestQueue with
    | [] => some { s with link := { s.link with noiseRun := 0 } }
    | g :: rest => if g = f then some { s with link := { s.link with requestQueue := rest } } else none
  else none

/-- A request command: its frame is taken and decided whole at this instant, or joins the request queue (R180, R181; DESIGN CHOICE,
unsafe, log 4). A frame that the decoder does not take now is an arrival, the one equal to the head of the queue too while the reply
queue is full: it joins the queue, or is counted in OVERRUN. A part held in reset takes nothing (R198). -/
def State.request (s : State) (f : Option Frame) (decide : State → State) : State :=
  if s.inReset then s
  else
    match f with
    | none => s
    | some f =>
      match s.taken f with
      | some s1 => decide s1
      | none => s.arrive f

/-- The decision of a request whose body may be of wrong length, which R181, step 2, answers REJECT BAD-LENGTH. -/
def decideBody {α : Type} (k : RequestKind) (b : Body α) (decide : α → State → State) (s : State) : State :=
  match b with
  | .ok a => decide a s
  | .badLength _ => s.reject k .badLength 0 0

/-! ## The transmitter -/

/-- A frame begins for a report or reply: its octets are built at this instant (R183). -/
def State.begin (s : State) (src : Source) (kind : Octet) (body : List Octet) : State :=
  { s with link := { s.link with sending := some { source := src, octets := wireFrame kind body, elapsed := 0 } } }

/-- A frame boundary: with THOLD deasserted the transmit arbiter begins a frame for the head of the action lane, else of the reply
queue, else of the status lane (R166, R167). -/
def State.frameBoundary (s : State) : State :=
  if s.link.sending.isSome ∨ s.link.thold then s
  else
    match s.link.actionLane, s.link.replyQueue, s.link.statusLane with
    | a :: _, _, _ => s.begin .action a.kind a.body
    | [], r :: _, _ => s.begin .reply r.kind r.body
    | [], [], u :: _ => s.begin .status u.kind u.body
    | [], [], [] => s

/-- A deadline pending for room is delivered again by a signal (R154). -/
def Watch.signal : Watch → Watch
  | .watched => .watched
  | .pendingRoom => .signalled
  | .signalled => .signalled

/-- A waiting entry with its pending expiry delivered again. -/
def Waiting.signal (e : Waiting) : Waiting := { e with watch := e.watch.signal }

/-- A slot with its pending vacate expiry delivered again. -/
def Slot.signal : Slot → Slot
  | .vacating c v => .vacating c { v with watch := v.watch.signal }
  | x => x

/-- A deadline of this condition is delivered again by the signal now being answered (R154). -/
def Watch.isSignalled (w : Watch) : Bool := decide (w = .signalled)

/-- The slot's pending vacate expiry is delivered again by the signal now being answered. -/
def Slot.isSignalled : Slot → Bool
  | .vacating _ v => v.watch.isSignalled
  | _ => false

/-- Some answer to the last room-appeared signal is still to be made: a retry, a pass, or an expiry delivered again (R161). -/
def State.answersOwed (s : State) : Bool :=
  s.retrySignal || s.passSignal || s.emergency.any (fun e => e.watch.isSignalled) ||
    s.priority.any (fun e => e.watch.isSignalled) || s.general.any (fun e => e.watch.isSignalled) ||
    allPlaces.any (fun p => (s.slot p.1 p.2).isSignalled)

/-- The room-appeared signal (R161): the arbiter is to answer it where it finds a mark set (R76), and the sweep delivers again every
expiry it holds pending for room (R154). -/
def State.roomAppeared (s : State) : State :=
  { s with
    retrySignal := s.retrySignal || s.serviceDeferred
    passSignal := s.passSignal || s.passDeferred
    emergency := s.emergency.map Waiting.signal
    priority := s.priority.map Waiting.signal
    general := s.general.map Waiting.signal
    slots := s.slots.map (fun row => row.map Slot.signal) }

/-- The last octet of the frame in transmission leaves, and its report or reply leaves its lane or queue (R158); an action report
leaving gives the room-appeared signal (R161). The answers to one signal are made at its instant, so no later action report leaves
before them (DEDUCED, unsafe, log 8). The next choice is FRAME_BOUNDARY's (DEDUCED, unsafe, log 10). -/
def State.frameEnd (s : State) : State :=
  match s.link.sending with
  | none => s
  | some d =>
    match d.source with
    | .action =>
      if s.answersOwed then s
      else ({ s with link := { s.link with sending := none, actionLane := s.link.actionLane.drop 1 } } : State).roomAppeared
    | .reply => { s with link := { s.link with sending := none, replyQueue := s.link.replyQueue.drop 1 } }
    | .status => { s with link := { s.link with sending := none, statusLane := s.link.statusLane.drop 1 } }

end Sys2Proof.Machine
end

