-- ==== Sys2Proof/Machine/Preemption.lean ====
section
/-! DEFINITION. The preemption unit: victims (R90 to R92), the victim-search pass (R93, R94), preemption start (R97), withdrawal
(R103) and the dropping of earmarks (R111). -/

namespace Sys2Proof.Machine

/-- A call of the class that a stage takes first: GENERAL, with preemptible yes at stage 1 and either flag at stage 2 (R91). -/
def generalVictim (escalated : Bool) (c : Call) : Bool := decide (c.cls = .general) && (escalated || c.preemptible)

/-- A call of the class that stage 2 takes after GENERAL: PRIORITY with preemptible yes (R91). -/
def priorityVictim (escalated : Bool) (c : Call) : Bool := escalated && decide (c.cls = .priority) && c.preemptible

/-- The calls of a sector that may be victims and that a test holds of, in slot order: the slot is ACTIVE and its index below the
sector's capacity (R90). -/
def State.victims (s : State) (t : SectorId) (p : Call → Bool) : List (SlotId × Call) :=
  allSlots.filterMap (fun n =>
    match s.slot t n with
    | .active c => if n.val < (s.sector t).capacity ∧ p c then some (n, c) else none
    | _ => none)

/-- The age of a call at this instant, a signed difference (R91). -/
def State.callAge (s : State) (c : Call) : Int := signedDiff s.localTime c.admitTime

/-- The youngest of the calls listed, the earlier listed between calls of equal age (R91, items 2 and 3). -/
def State.youngest (s : State) : List (SlotId × Call) → Option (SlotId × Call)
  | [] => none
  | x :: rest =>
    match s.youngest rest with
    | none => some x
    | some y => if s.callAge y.2 < s.callAge x.2 then some y else some x

/-- The victim in a sector for a beneficiary's stage: every eligible GENERAL call before any PRIORITY call (R91). -/
def State.victimIn (s : State) (escalated : Bool) (t : SectorId) : Option (SlotId × Call) :=
  match s.youngest (s.victims t (generalVictim escalated)) with
  | some v => some v
  | none => s.youngest (s.victims t (priorityVictim escalated))

/-- The candidate sectors of a beneficiary in order: the one it names, then that sector's neighbours (R92). -/
def State.candidateSectors (s : State) (e : Waiting) : List SectorId := e.sector :: (s.sector e.sector).neighbours

/-- The search for a victim: the first OPEN candidate sector that holds an eligible one is used (R92). -/
def State.searchVictim (s : State) (e : Waiting) : Option (SectorId × SlotId × Call) :=
  (s.candidateSectors e).findSome? (fun t =>
    if s.isOpen t then (s.victimIn e.escalated t).map (fun v => (t, v.1, v.2)) else none)

/-- A preemption is started for an emergency entry on a victim slot (R97). -/
def State.startPreemption (s : State) (e : Waiting) (t : SectorId) (n : SlotId) (c : Call) : State :=
  ((s.setSlot t n (.vacating c
      { attempt := .first, deadline := after s.localTime s.settings.vacateTimeout, watch := .watched,
        beneficiary := some e.tag })).setEarmark e.tag (some (t, n))).placeAction (.preempt c.tag (t, n) .first)

/-- The walk of a victim-search pass over the entries left to visit: an entry with an earmark is passed over, a victim without a
free action place stops the pass with the mark set (R93). -/
def passWalk : List Waiting → State → State
  | [], s => s
  | e :: rest, s =>
    if e.earmark.isSome then passWalk rest s
    else
      match s.searchVictim e with
      | none => passWalk rest s
      | some (t, n, c) =>
        if s.freePlaces = 0 then { s with passDeferred := true }
        else passWalk rest (s.startPreemption e t n c)

/-- A victim-search pass (R93): its mark is cleared at the start (R94) and the whole emergency list is walked, oldest first. -/
def State.pass (s : State) : State := passWalk s.emergency { s with passDeferred := false }

/-- A pass where one was requested (R95: several reasons of one event run one pass). -/
def State.passIf (s : State) (requested : Bool) : State := if requested then s.pass else s

/-- The earmark on a slot is dropped on both sides; the slot keeps vacating (R111). An earmark seen from one side only, which no
run reaches, is dropped there (DESIGN CHOICE, safe, log 15). -/
def State.dropEarmark (s : State) (t : SectorId) (n : SlotId) : State :=
  match s.slot t n with
  | .vacating c v =>
    match v.beneficiary with
    | some b => (s.setSlot t n (.vacating c { v with beneficiary := none })).setEarmark b none
    | none => s
  | _ => s

/-- The earmark that an entry holds is dropped on both sides (R111). -/
def State.dropEarmarkOf (s : State) (e : Waiting) : State :=
  match e.earmark with
  | some p => s.dropEarmark p.1 p.2
  | none => s

/-- The slot is VACATING with a beneficiary. -/
def Slot.earmarked : Slot → Bool
  | .vacating _ v => v.beneficiary.isSome
  | _ => false

/-- The earmarks on the slots listed are dropped (R14, R16). -/
def dropEarmarks : List Place → State → State
  | [], s => s
  | p :: rest, s => dropEarmarks rest (s.dropEarmark p.1 p.2)

/-- The preemption made for an entry is withdrawn: the victim slot returns to ACTIVE with its call part unchanged, the earmark is
cleared on both sides, and a WITHDRAW report is placed (R103). -/
def State.withdraw (s : State) (e : Waiting) : State :=
  match e.earmark with
  | none => s
  | some (t, n) =>
    match s.slot t n with
    | .vacating c _ => ((s.setSlot t n (.active c)).setEarmark e.tag none).placeAction (.withdraw c.tag (t, n))
    | _ => s.setEarmark e.tag none

end Sys2Proof.Machine
end

