-- ==== Sys2Proof/Machine/Service.lean ====
section
/-! DEFINITION. Grants and freed-slot service: the call part a grant writes (R7), the candidate of a slot (R68, R69), the grant of a
slot to a waiting entry (R70), deferral for lack of room (R71), walks (R72), the release of a slot (R8, R79) and the draining
completion test (R17). -/

namespace Sys2Proof.Machine

/-- The call part that a grant writes for a waiting entry (R7). -/
def State.callOf (s : State) (e : Waiting) : Call :=
  { tag := e.tag, cls := e.cls, preemptible := !decide (e.cls = .emergency) && e.preemptible, admitTime := s.localTime,
    origin := e.sector }

/-- A slot becomes ACTIVE with a waiting entry's call, the entry leaves its list and a GRANT report is placed (R70, R99). -/
def State.grantWaiting (s : State) (t : SectorId) (n : SlotId) (e : Waiting) : State :=
  ((s.setSlot t n (.active (s.callOf e))).removeWaiting e.cls e.tag).placeAction
    (.grant e.tag (t, n) e.cls (s.localTime - e.arrival))

/-- The candidate for a FREE slot of a sector: the oldest eligible emergency entry, then the oldest priority entry naming it and
the oldest general entry naming it, each class under its guard (R68, R69). -/
def State.candidate (s : State) (t : SectorId) : Option Waiting :=
  match s.emergency.find? (fun e => s.eligible e t) with
  | some e => some e
  | none =>
    match (if s.passesGuard .priority t then s.priority.find? (fun e => decide (e.sector = t)) else none) with
    | some e => some e
    | none => if s.passesGuard .general t then s.general.find? (fun e => decide (e.sector = t)) else none

/-- What the service of a slot leaves: the state, and whether it was deferred for lack of room. -/
structure Served where
  state : State
  deferred : Bool
deriving DecidableEq, Repr

/-- The action places that serving an entry needs: two with an earmark, for the WITHDRAW and the GRANT, one otherwise (R71). -/
def placesNeeded (e : Waiting) : Nat := if e.earmark.isSome then 2 else 1

/-- Freed-slot service for one slot (R67 to R71): only a FREE slot of an OPEN sector is served; a candidate without room sets the
service-deferred mark and stops the service. -/
def State.serveSlot (s : State) (t : SectorId) (n : SlotId) : Served :=
  if (s.slot t n).isFree ∧ s.isOpen t then
    match s.candidate t with
    | none => ⟨s, false⟩
    | some e =>
      if s.freePlaces < placesNeeded e then ⟨{ s with serviceDeferred := true }, true⟩
      else ⟨(s.withdraw e).grantWaiting t n e, false⟩
  else ⟨s, false⟩

/-- A walk that serves the slots listed, one at a time, and ends at a deferral (R72). -/
def serveWalk : List Place → State → State
  | [], s => s
  | p :: rest, s =>
    let r := s.serveSlot p.1 p.2
    if r.deferred then r.state else serveWalk rest r.state

/-- The draining completion test (R17): a DRAINING sector with occupancy 0 becomes DRAINED, with a DRAINED report offered. -/
def State.drainedTest (s : State) (t : SectorId) : State :=
  if (s.sector t).state = .draining ∧ s.occupancy t = 0 then
    (s.setSector t { s.sector t with state := .drained }).offerStatus (.drained t)
  else s

/-- What a released slot becomes: FREE below the capacity of a sector that is not DISABLED, CLOSED otherwise (R8). -/
def State.releasedSlot (s : State) (t : SectorId) (n : SlotId) : Slot :=
  if n.val < (s.sector t).capacity ∧ (s.sector t).state ≠ .disabled then .free else .closed

/-- A slot loses its call and becomes FREE or CLOSED; then service in an OPEN sector, the draining test in a DRAINING one (R8, R79,
R80, R101). -/
def State.freeSlot (s : State) (t : SectorId) (n : SlotId) : State :=
  let s1 := s.setSlot t n (s.releasedSlot t n)
  match (s.sector t).state with
  | .opened => (s1.serveSlot t n).state
  | .draining => s1.drainedTest t
  | .drained => s1
  | .disabled => s1

/-- RELEASE of a VACATING slot (R99 to R101): handed to its beneficiary when one remains and an action place is free; otherwise the
earmark is dropped and the slot is freed. -/
def State.releaseVacating (s : State) (t : SectorId) (n : SlotId) (v : Vacate) : State :=
  match v.beneficiary with
  | none => s.freeSlot t n
  | some b =>
    match s.entryIn .emergency b with
    | none => s.freeSlot t n
    | some e =>
      if s.freePlaces = 0 then (s.setEarmark b none).freeSlot t n
      else s.grantWaiting t n e

end Sys2Proof.Machine
end

