-- ==== Sys2Proof/Machine/Admission.lean ====
section
/-! DEFINITION. ADMIT (R37 to R62), with the scan of the screening table (R22 to R28), and RELEASE (R78 to R81) and CANCEL
(R82, R83). -/

namespace Sys2Proof.Machine

/-! ## Classification (R24 to R28, R40) -/

/-- The version of an entry that a scan uses: the held copy of the held entry, the entry itself otherwise (R24, R33). -/
def State.scanned (s : State) (i : ScreenIndex) : ScreenContent :=
  match s.screening.hold with
  | some h => if h.index = i then h.copy else (s.screening.entries.get i).content
  | none => (s.screening.entries.get i).content

/-- An entry matches a key: they agree wherever the mask has a 1 (R23). -/
def matchesKey (c : ScreenContent) (k : ScreenKey) : Bool := decide (k &&& c.mask = c.matchValue &&& c.mask)

/-- The winner of a scan from index 31 down to index 0 (R24). -/
def State.scanWinner (s : State) (k : ScreenKey) : Option ScreenIndex :=
  scanOrder.find? (fun i => (s.scanned i).enabled && matchesKey (s.scanned i) k)

/-- The winner's hit count is incremented (R28). -/
def State.countHit (s : State) (i : ScreenIndex) : State :=
  let e := s.screening.entries.get i
  { s with screening := { s.screening with entries := s.screening.entries.set i { e with hits := bump e.hits } } }

/-- The outcome of classification (R26, R27). -/
inductive Classified where
  | attempt (cls : CallClass) (preemptible : Bool)
  | bar (index : ScreenIndex) (reason : Fin 16)
deriving DecidableEq, Repr

/-- The preemptible flag an attempt takes: no for EMERGENCY, whatever screening holds (R26). -/
def flagFor (cls : CallClass) (preemptible : Bool) : Bool := !decide (cls = .emergency) && preemptible

/-- The outcome of a scan, its winner given (R25 to R27). -/
def State.outcome (s : State) (f : AdmitFields) (winner : Option ScreenIndex) : Classified :=
  match winner with
  | none => if f.cause = 1 then .attempt .emergency false else .attempt .general true
  | some i =>
    match (s.scanned i).action with
    | .assign cls p => .attempt cls (flagFor cls p)
    | .bar r => .bar i r

/-- The state after the scan: the winner's hit count, if there is a winner (R24, R25). -/
def State.afterScan (s : State) (winner : Option ScreenIndex) : State :=
  match winner with
  | none => s
  | some i => s.countHit i

/-! ## The three ends of a class decision -/

/-- A refusal with a hint (R57): the hint is computed first, then the refusal is recorded. -/
def State.refuse (s : State) (f : AdmitFields) (reason : RefusalReason) : State :=
  (s.recordRefusal f.key).pushReply (.refused f.tag reason (s.retryHint f.key (toSector f.sector)))

/-- A direct grant in a sector: its lowest-index FREE slot becomes ACTIVE with the attempt's call part (R7, R43, R58). -/
def State.directGrant (s : State) (f : AdmitFields) (cls : CallClass) (pre : Bool) (t : SectorId) : State :=
  match s.lowestFree t with
  | none => s
  | some n =>
    (s.setSlot t n (.active { tag := f.tag, cls := cls, preemptible := flagFor cls pre, admitTime := s.localTime,
                              origin := toSector f.sector })).pushReply (.granted f.tag (t, n) cls (flagFor cls pre))

/-- The wait setting of a class, in seconds (R148). -/
def Settings.wait (g : Settings) : CallClass → Nat
  | .emergency => g.emergencyWait
  | .priority => g.priorityWait
  | .general => g.generalWait

/-- The waiting entry that an attempt joins a list with (R44, R89). -/
def State.newEntry (s : State) (f : AdmitFields) (cls : CallClass) (pre : Bool) : Waiting :=
  { tag := f.tag, cls := cls, sector := toSector f.sector, key := f.key, preemptible := flagFor cls pre,
    arrival := s.localTime, deadline := after s.localTime (s.settings.wait cls * 1000), watch := .watched, merged := 0,
    escalated := decide (cls = .emergency ∧ s.settings.escalationTime = 0),
    escalationPoint :=
      if cls = .emergency ∧ s.settings.escalationTime ≠ 0 then
        some (after s.localTime (s.settings.escalationTime * 1000))
      else none,
    earmark := none }

/-- The attempt joins the list of its class at the tail (R44). -/
def State.queueEntry (s : State) (f : AdmitFields) (cls : CallClass) (pre : Bool) : State :=
  s.appendWaiting cls (s.newEntry f cls pre)

/-! ## The class decisions -/

/-- The emergency grant test of a sector (R46). -/
def State.emergencyTest (s : State) (t : SectorId) : Bool :=
  s.isOpen t && decide (0 < s.freeCount t) && !s.emergencyStands t

/-- The entry with this tag holds an earmark (R42, R48). -/
def State.holdsEarmark (s : State) (tag : Tag) : Bool :=
  match s.entryIn .emergency tag with
  | some e => e.earmark.isSome
  | none => false

/-- The EMERGENCY-FULL refusal: a hint of 0, no recording, the count raised (R47, R62). -/
def State.refuseEmergencyFull (s : State) (f : AdmitFields) : State :=
  ({ s with emergencyFull := bump s.emergencyFull } : State).pushReply (.refused f.tag .emergencyFull 0)

/-- The attempt is queued in the emergency list and a victim-search pass follows (R48). -/
def State.queueEmergency (s : State) (f : AdmitFields) : State :=
  let s1 := s.queueEntry f .emergency false
  let s2 := s1.pass
  s2.pushReply (.queued f.tag .emergency s1.emergency.length (s2.holdsEarmark f.tag))

/-- The decision for class EMERGENCY (R45). -/
def State.decideEmergency (s : State) (f : AdmitFields) : State :=
  let t := toSector f.sector
  match (t :: (s.sector t).neighbours).find? (fun u => s.emergencyTest u) with
  | some u => s.directGrant f .emergency false u
  | none => if s.emergency.length < Config.emergencyPlaces then s.queueEmergency f else s.refuseEmergencyFull f

/-- The merge of an attempt into an emergency entry (R41, R42). -/
def State.merge (s : State) (f : AdmitFields) (e : Waiting) : State :=
  let count := min (e.merged + 1) 255
  (s.updateEmergency e.tag (fun x => { x with merged := count })).pushReply
    (.merged f.tag e.tag count (position s.emergency (fun x => x.key == f.key)) e.earmark.isSome)

/-- The emergency merge test, then the decision for class EMERGENCY (R41, R45). -/
def State.mergeOrDecide (s : State) (f : AdmitFields) : State :=
  match (if f.key = 0 then none else s.emergency.find? (fun e => e.key == f.key)) with
  | some e => s.merge f e
  | none => s.decideEmergency f

/-- The sector is DRAINING or DRAINED (R49). -/
def Sector.leaving (r : Sector) : Bool := decide (r.state = .draining ∨ r.state = .drained)

/-- The attempt joins a list that places no report, and is answered QUEUED (R51, R55, R59). -/
def State.queuePlain (s : State) (f : AdmitFields) (cls : CallClass) (pre : Bool) : State :=
  let s1 := s.queueEntry f cls pre
  s1.pushReply (.queued f.tag cls (s1.waiting cls).length false)

/-- The decision for class PRIORITY (R49 to R51). -/
def State.decidePriority (s : State) (f : AdmitFields) (pre : Bool) : State :=
  let t := toSector f.sector
  if (s.sector t).leaving then s.refuse f (.draining .priority)
  else if s.passesGuard .priority t ∧ ¬s.emergencyStands t ∧ ¬s.named .priority t then s.directGrant f .priority pre t
  else if s.priority.length < Config.priorityPlaces then s.queuePlain f .priority pre
  else s.refuse f (.listFull .priority)

/-- A token of the sector is spent (R53). -/
def State.spendToken (s : State) (t : SectorId) : State :=
  s.setSector t { s.sector t with tokens := (s.sector t).tokens - 1 }

/-- The oldest general entry gives way: it is removed and reported EXPIRED, cause DISPLACED, with a hint that is not recorded
(R56). -/
def State.displace (s : State) (e : Waiting) : State :=
  ({ s with general := s.general.drop 1 } : State).placeAction
    (.expired e.tag .general .displaced (s.localTime - e.arrival) (s.retryHint e.key e.sector))

/-- The decision of a metered GENERAL attempt (R54 to R56). -/
def State.decideMetered (s : State) (f : AdmitFields) (pre : Bool) : State :=
  let t := toSector f.sector
  if s.passesGuard .general t ∧ ¬s.emergencyStands t ∧ ¬s.named .priority t ∧ ¬s.named .general t then
    s.directGrant f .general pre t
  else if s.general.length < Config.generalPlaces then s.queuePlain f .general pre
  else
    match s.settings.policy, s.general with
    | .displace, e :: _ =>
      if s.freePlaces = 0 then s.refuse f (.listFull .general) else (s.displace e).queuePlain f .general pre
    | _, _ => s.refuse f (.listFull .general)

/-- The decision for class GENERAL: the draining test, metering, then the metered decision (R49, R52, R53). -/
def State.decideGeneral (s : State) (f : AdmitFields) (pre : Bool) : State :=
  let t := toSector f.sector
  if (s.sector t).leaving then s.refuse f (.draining .general)
  else if (s.sector t).tokens = 0 then s.refuse f .throttled
  else (s.spendToken t).decideMetered f pre

/-- The decision for the attempt's class, after the emergency merge (R37). -/
def State.decideClass (s : State) (f : AdmitFields) (cls : CallClass) (pre : Bool) : State :=
  match cls with
  | .emergency => s.mergeOrDecide f
  | .priority => s.decidePriority f pre
  | .general => s.decideGeneral f pre

/-- Classification and what follows it (R40). -/
def State.classifyAndDecide (s : State) (f : AdmitFields) : State :=
  let winner := s.scanWinner (screenKey f)
  let s1 := s.afterScan winner
  match s.outcome f winner with
  | .bar i r => s1.refuse f (.barred i r)
  | .attempt cls pre => s1.decideClass f cls pre

/-- The decision of an ADMIT, the request checks first (R37, R38). -/
def decideAdmit (f : AdmitFields) (s : State) : State :=
  match fieldFault (admitChecks f) with
  | some n => s.reject .admitCall .badField n f.tag
  | none =>
    if (s.sector (toSector f.sector)).state = .disabled then s.reject .admitCall .sectorDisabled 0 f.tag
    else if s.tagHeld f.tag then s.reject .admitCall .duplicateTag 0 f.tag
    else s.classifyAndDecide f

/-- ADMIT (R37). -/
def execAdmitCall (b : Body AdmitFields) (s : State) : Host.Outcome State Fault Refusal :=
  .next (s.request (frameOf (.admitCall b)) (decideBody .admitCall b decideAdmit))

/-! ## RELEASE -/

/-- The decision of a RELEASE by where the tag is held (R78). -/
def decideRelease (tag : Tag) (s : State) : State :=
  if tag = 0 then s.reject .release .badField 1 tag
  else
    match s.slotWith tag with
    | some (t, n) =>
      let x := s.slot t n
      let s1 := match x with
        | .vacating _ v => s.releaseVacating t n v
        | _ => s.freeSlot t n
      s1.pushReply (.released tag (t, n) x.code)
    | none =>
      if (s.entryWith tag).isSome then s.reject .release .notActive 0 tag else s.reject .release .unknownTag 0 tag

/-- RELEASE (R78 to R81, R99 to R101). -/
def execRelease (b : Body Tag) (s : State) : Host.Outcome State Fault Refusal :=
  .next (s.request (frameOf (.release b)) (decideBody .release b decideRelease))

/-! ## CANCEL -/

/-- A waiting entry leaves its list with its earmark dropped (R83, R84). -/
def State.discardEntry (s : State) (c : CallClass) (e : Waiting) : State := (s.dropEarmarkOf e).removeWaiting c e.tag

/-- The decision of a CANCEL by where the tag is held (R82, R83). -/
def decideCancel (tag : Tag) (s : State) : State :=
  if tag = 0 then s.reject .cancel .badField 1 tag
  else
    match s.entryWith tag with
    | some (c, e) => (s.discardEntry c e).pushReply (.cancelled tag c e.earmark.isSome)
    | none =>
      if (s.slotWith tag).isSome then s.reject .cancel .notWaiting 0 tag else s.reject .cancel .unknownTag 0 tag

/-- CANCEL (R82, R83). -/
def execCancel (b : Body Tag) (s : State) : Host.Outcome State Fault Refusal :=
  .next (s.request (frameOf (.cancel b)) (decideBody .cancel b decideCancel))

end Sys2Proof.Machine
end

