-- ==== Sys2Proof/Machine/Governor.lean ====
section
/-! DEFINITION. The load governor: load index (R118), pressure (R119), target level (R121), vote (R122), tokens (R124), the epoch
boundary (R116, R126) and the surge window (R128 to R132). -/

namespace Sys2Proof.Machine

/-- The load index from capacity, occupancy and waiting count (R118). -/
def loadIndex (c o q : Nat) : Nat := if c = 0 then 4095 else min ((o + q) * 1024 / c) 4095

/-- The pressure update: P plus (d x W + 8) / 16 rounded toward minus infinity, d being L - P (R119). -/
def newPressure (p l w : Nat) : Nat := ((p : Int) + (((l : Int) - (p : Int)) * (w : Int) + 8).fdiv 16).toNat

/-- The highest level whose threshold is at or below a pressure (R121). -/
def tableTarget (table : Table LevelRow 8) (p : Nat) : LevelId :=
  (allLevels.reverse.find? (fun l => decide ((rowOf table l).threshold ≤ p))).getD 0

/-- A level not below the surge floor, where a window is open (R121, R133). -/
def floored (w : Option Surge) (l : LevelId) : LevelId :=
  match w with
  | some v => if l.val < v.floor.val then v.floor else l
  | none => l

/-- The vote of a sector: its target against the level it holds (R122). -/
def voteFor (target level : LevelId) : Vote :=
  if level.val < target.val then .up else if target.val < level.val then .down else .hold

/-- The history with a vote appended as its newest and the oldest dropped (R122). -/
def VoteHistory.append (h : VoteHistory) (v : Vote) : VoteHistory := ⟨h.middle, h.newest, v⟩

/-- How many of the three votes are this one. -/
def VoteHistory.countOf (h : VoteHistory) (v : Vote) : Nat := [h.oldest, h.middle, h.newest].countP (fun x => decide (x = v))

/-- The level one step up, never above 7 (R122). -/
def levelUp (l : LevelId) : LevelId := if h : l.val + 1 < 8 then ⟨l.val + 1, h⟩ else l

/-- The level one step down, never below 0 (R122). -/
def levelDown (l : LevelId) : LevelId := ⟨l.val - 1, by omega⟩

/-- A decrease of a level is allowed: no window is open, or one step down is not below its floor (R122, item 2). -/
def decreaseAllowed (w : Option Surge) (l : LevelId) : Bool :=
  match w with
  | none => true
  | some v => decide (v.floor.val + 1 ≤ l.val)

/-- The level and the history after a vote (R122). -/
def afterVote (w : Option Surge) (l : LevelId) (h : VoteHistory) (v : Vote) : LevelId × VoteHistory :=
  let h' := h.append v
  if 2 ≤ h'.countOf .up then (levelUp l, VoteHistory.cleared)
  else if 2 ≤ h'.countOf .down ∧ decreaseAllowed w l then (levelDown l, VoteHistory.cleared)
  else (l, h')

/-- The tokens after a refill, never above the bucket depth (R124). -/
def refilled (table : Table LevelRow 8) (r : Sector) (l : LevelId) : Nat := min r.depth (r.tokens + (rowOf table l).refill)

/-- A sector record after step 2 of a boundary, from the figures O and Q read at that instant (R117 to R124). -/
def boundarySector (table : Table LevelRow 8) (w : Option Surge) (o q : Nat) (r : Sector) : Sector :=
  let p := newPressure r.pressure (loadIndex r.capacity o q) r.weight
  let target := floored w (tableTarget table p)
  let lv := afterVote w r.level r.votes (voteFor target r.level)
  { r with pressure := p, level := lv.1, votes := lv.2, tokens := refilled table r lv.1 }

/-- Step 2 of a boundary for one sector (R116): a DISABLED sector is passed over; a LEVEL report is offered when the sector's
broadcast values differ from those before the boundary, which `before` gives under the table before step 1 (R126). -/
def State.governSector (s : State) (before : Table LevelRow 8) (t : SectorId) : State :=
  let r := s.sector t
  if r.state = .disabled then s
  else
    let r' := boundarySector s.governor.activeTable s.governor.surge (s.occupancy t) (s.waitingCount t) r
    let s' := s.setSector t r'
    if broadcast before r.level = broadcast s.governor.activeTable r'.level then s'
    else s'.offerStatus (s'.levelReport t)

/-- Step 2 of a boundary over the sectors listed, in order (R116). -/
def governSectors (before : Table LevelRow 8) : List SectorId → State → State
  | [], s => s
  | t :: rest, s => governSectors before rest (s.governSector before t)

/-- Step 1 of a boundary: the staged copies become active and the next boundary is set from this one (R115, R116). -/
def Governor.copyStaged (g : Governor) : Governor :=
  { g with activeTable := g.stagedTable, activePeriod := g.stagedPeriod,
           nextBoundary := after g.nextBoundary g.stagedPeriod }

/-- An epoch boundary: copy, computation, pass (R116). -/
def State.boundary (s : State) : State :=
  (governSectors s.governor.activeTable allSectors { s with governor := s.governor.copyStaged }).pass

/-! ## The surge window -/

/-- The state with the surge window set or closed. -/
def State.setSurge (s : State) (w : Option Surge) : State := { s with governor := { s.governor with surge := w } }

/-- The CLOSING report is placed and the notice marked sent (R131). -/
def State.placeClosing (s : State) (w : Surge) : State :=
  (s.setSurge (some { w with noticeDue := false })).offerStatus (.surge .closing w.floor (surgeRemaining w s.localTime))

/-- The raise of a sector to the floor of a window that opens: its history is cleared and a LEVEL report is placed (R129, item 2). -/
def State.raiseToFloor (s : State) (floor : LevelId) (t : SectorId) : State :=
  let r := s.sector t
  if r.state ≠ .disabled ∧ r.level.val < floor.val then
    let s' := s.setSector t { r with level := floor, votes := VoteHistory.cleared }
    s'.offerStatus (s'.levelReport t)
  else s

/-- The raises of the sectors listed, in order (R129). -/
def raiseSectors (floor : LevelId) : List SectorId → State → State
  | [], s => s
  | t :: rest, s => raiseSectors floor rest (s.raiseToFloor floor t)

/-- The closing point of a window is reached at a local time (R131). -/
def closingReached (w : Surge) (now : Time) : Bool := reached (closingPointOf w) now

/-- SURGE-OPEN's effects (R129): the window, the raises, the OPENED report, and the CLOSING report at once when the closing point
has been reached. -/
def State.openSurge (s : State) (floor : LevelId) (seconds : Nat) : State :=
  let w : Surge := { floor := floor, close := after s.localTime (seconds * 1000), noticeDue := true }
  let s1 := raiseSectors floor allSectors (s.setSurge (some w))
  let s2 := s1.offerStatus (.surge .opened floor (surgeRemaining w s.localTime))
  if closingReached w s.localTime then s2.placeClosing w else s2

/-- The open window with its close time moved later, at most one hour ahead (R130). -/
def Surge.extend (w : Surge) (now : Time) (seconds : Nat) : Surge :=
  let moved := after w.close (seconds * 1000)
  let close := if 3600000 < signedDiff moved now then after now 3600000 else moved
  { w with close := close,
           noticeDue := if 10000 < signedDiff close now then true else w.noticeDue }

/-- The window closes: the floor is removed and a CLOSED report is placed (R132). -/
def State.closeSurge (s : State) (w : Surge) : State :=
  (s.setSurge none).offerStatus (.surge .closed w.floor 0)

end Sys2Proof.Machine
end

