-- ==== Sys2Proof/Machine/Events.lean ====
section
/-! DEFINITION. The part's own events: the receiver's (R171, R175 to R177), the transmitter's (R158, R166, R167), the answers to a
room-appeared signal (R76, R96), the sweep's expiries (R84, R85, R105 to R107, R109), the epoch boundary (R116) and the points of
the surge window (R131, R132). An event whose condition does not hold changes nothing (DESIGN CHOICE, safe, log 5), and a part held
in reset meets none (R198). -/

namespace Sys2Proof.Machine

/-- An event of a part that is not held in reset (R198). -/
def State.live (s : State) (effect : State → State) : State := if s.inReset then s else effect s

/-! ## The receiver -/

/-- OCTET_DELIVERED: a character comes, and its octet, if it forms one, goes to the frame receiver (R171, R175; log 12, log 18). -/
def execOctetDelivered (c : CharSamples) (s : State) : Host.Outcome State Fault Refusal :=
  .next (s.live (fun s => s.receiveCharacter c))

/-- BAD_LENGTH_OCTET: in LENGTH, an octet of 0 or 249..255 loses the frame (R175). -/
def execBadLengthOctet (o : Octet) (s : State) : Host.Outcome State Fault Refusal :=
  .next (s.live (fun s =>
    if s.link.receiver = .length ∧ ¬lengthInRange o then s.receiveOctet o else s))

/-- GOOD_FRAME: in CHECK, the second check octet completes the frame (R177). -/
def execGoodFrame (o : Octet) (s : State) : Host.Outcome State Fault Refusal :=
  .next (s.live (fun s =>
    match s.link.receiver with
    | .check got (some hi) => s.completeFrame got hi o
    | _ => s))

/-- GAP_TIMEOUT: inside a frame, a gap that passes 1 ms abandons it (R176). -/
def execGapTimeout (s : State) : Host.Outcome State Fault Refusal :=
  .next (s.live (fun s => if s.link.receiver = .hunt then s else s.loseFrame .gap))

/-! ## The transmitter -/

/-- How many consecutive samples of THOLD make a new taken level (R172). -/
def tholdSamples : Nat := 2

/-- THOLD_ASSERTED: the taken level becomes asserted once two consecutive samples show THOLD low (R167, R172; DESIGN
CHOICE, safe, log 11: the command carries how many samples show it). -/
def execTholdAsserted (samples : Nat) (s : State) : Host.Outcome State Fault Refusal :=
  .next (s.live (fun s =>
    if tholdSamples ≤ samples then { s with link := { s.link with thold := true } } else s))

/-- THOLD_DEASSERTED: the taken level becomes deasserted, and at that instant a frame boundary is taken (R167, R172). -/
def execTholdDeasserted (samples : Nat) (s : State) : Host.Outcome State Fault Refusal :=
  .next (s.live (fun s =>
    if tholdSamples ≤ samples ∧ s.link.thold then
      ({ s with link := { s.link with thold := false } } : State).frameBoundary
    else s))

/-- FRAME_BOUNDARY (R166). -/
def execFrameBoundary (s : State) : Host.Outcome State Fault Refusal := .next (s.live State.frameBoundary)

/-- FRAME_END (R158, R161). -/
def execFrameEnd (s : State) : Host.Outcome State Fault Refusal := .next (s.live State.frameEnd)

/-! ## The answers to a room-appeared signal -/

/-- The deferred-service retry: the mark is cleared and every FREE slot of every OPEN sector is served in order (R75, R76). -/
def State.retryService (s : State) : State :=
  serveWalk allPlaces { s with serviceDeferred := false, retrySignal := false }

/-- DEFERRED_SERVICE_RETRY: the arbiter's answer to a signal that found its mark set (R76). -/
def execDeferredServiceRetry (s : State) : Host.Outcome State Fault Refusal :=
  .next (s.live (fun s => if s.retrySignal ∧ s.serviceDeferred then s.retryService else { s with retrySignal := false }))

/-- DEFERRED_PASS: the answer to a signal that found the victim-pass-deferred mark set, made after the arbiter's own retry (R76,
R96). -/
def execDeferredPass (s : State) : Host.Outcome State Fault Refusal :=
  .next (s.live (fun s =>
    if s.retrySignal then s
    else if s.passSignal ∧ s.passDeferred then ({ s with passSignal := false } : State).pass
    else { s with passSignal := false }))

/-! ## The sweep -/

/-- A deadline is to be delivered: it is watched and reached, or pending and delivered again by a signal (R153, R154). -/
def deliverable (w : Watch) (deadline now : Time) : Bool :=
  match w with
  | .watched => reached deadline now
  | .signalled => true
  | .pendingRoom => false

/-- The entry with this tag, in the list of this class, has its expiry pending for room (R154). -/
def State.declineWaiting (s : State) (c : CallClass) (tag : Tag) : State :=
  s.setWaiting c ((s.waiting c).map (fun e => if e.tag = tag then { e with watch := .pendingRoom } else e))

/-- The arbiter expires a waiting entry (R84). -/
def State.expireWaiting (s : State) (c : CallClass) (e : Waiting) : State :=
  (s.discardEntry c e).placeAction
    (.expired e.tag c .timeout (s.localTime - e.arrival) (s.retryHint e.key e.sector))

/-- WAITING_EXPIRY: the entry is expired when an action place is free, and the expiry declined otherwise (R84, R85). -/
def execWaitingExpiry (tag : Tag) (s : State) : Host.Outcome State Fault Refusal :=
  .next (s.live (fun s =>
    match s.entryWith tag with
    | none => s
    | some (c, e) =>
      if deliverable e.watch e.deadline s.localTime then
        if s.freePlaces = 0 then s.declineWaiting c tag else s.expireWaiting c e
      else s))

/-- The emergency entry escalates; its escalation point is taken (R109). -/
def State.escalate (s : State) (e : Waiting) : State :=
  (s.updateEmergency e.tag (fun x => { x with escalated := true, escalationPoint := none })).passIf e.earmark.isNone

/-- ESCALATION: an escalation point that is reached is taken (R109). -/
def execEscalation (tag : Tag) (s : State) : Host.Outcome State Fault Refusal :=
  .next (s.live (fun s =>
    match s.entryIn .emergency tag with
    | none => s
    | some e =>
      match e.escalationPoint with
      | none => s
      | some p => if reached p s.localTime then s.escalate e else s))

/-- A vacate expiry is declined and becomes pending for room (R107). -/
def State.declineVacate (s : State) (t : SectorId) (n : SlotId) (c : Call) (v : Vacate) : State :=
  s.setSlot t n (.vacating c { v with watch := .pendingRoom })

/-- The order of a VACATING slot is renewed: attempt 2, a new deadline, a PREEMPT (R105). -/
def State.renewOrder (s : State) (t : SectorId) (n : SlotId) (c : Call) (v : Vacate) : State :=
  (s.setSlot t n (.vacating c
    { v with attempt := .second, deadline := after s.localTime s.settings.vacateTimeout, watch := .watched })).placeAction
    (.preempt c.tag (t, n) .second)

/-- The entry's side of a dropped earmark, where the slot had a beneficiary (R106, item 3). -/
def State.clearBeneficiary (s : State) (b : Option Tag) : State :=
  match b with
  | some tag => s.setEarmark tag none
  | none => s

/-- A VACATING slot is given up: STUCK, a STUCK report, the earmark dropped, and a pass where there was one (R106). -/
def State.giveUpSlot (s : State) (t : SectorId) (n : SlotId) (c : Call) (v : Vacate) : State :=
  (((s.setSlot t n (.stuck c)).placeAction (.stuck c.tag (t, n))).clearBeneficiary v.beneficiary).passIf
    v.beneficiary.isSome

/-- VACATE_EXPIRY: renewal at attempt 1, STUCK at attempt 2, declined without a free action place (R105 to R107). -/
def execVacateExpiry (t : SectorId) (n : SlotId) (s : State) : Host.Outcome State Fault Refusal :=
  .next (s.live (fun s =>
    match s.slot t n with
    | .vacating c v =>
      if deliverable v.watch v.deadline s.localTime then
        if s.freePlaces = 0 then s.declineVacate t n c v
        else
          match v.attempt with
          | .first => s.renewOrder t n c v
          | .second => s.giveUpSlot t n c v
      else s
    | _ => s))

/-! ## The epoch and surge timers -/

/-- EPOCH_BOUNDARY: taken when local time reaches the next boundary (R115, R116, R156). -/
def execEpochBoundary (s : State) : Host.Outcome State Fault Refusal :=
  .next (s.live (fun s => if reached s.governor.nextBoundary s.localTime then s.boundary else s))

/-- CLOSING_POINT: reached while the window is open with its notice due (R131). -/
def execClosingPoint (s : State) : Host.Outcome State Fault Refusal :=
  .next (s.live (fun s =>
    match s.governor.surge with
    | some w => if w.noticeDue ∧ closingReached w s.localTime then s.placeClosing w else s
    | none => s))

/-- SURGE_EXPIRY: local time reaches the close time of the open window (R132, item 1). -/
def execSurgeExpiry (s : State) : Host.Outcome State Fault Refusal :=
  .next (s.live (fun s =>
    match s.governor.surge with
    | some w => if reached w.close s.localTime then s.closeSurge w else s
    | none => s))

end Sys2Proof.Machine
end

