-- ==== Sys2Proof/Machine/GovernorRequests.lean ====
section
/-! DEFINITION. LEVEL-SET (R114), TIMER-SET (R148), SURGE-OPEN (R129), SURGE-EXTEND (R130) and SURGE-CLOSE (R132). -/

namespace Sys2Proof.Machine

/-- The row that a LEVEL-SET writes (R114). -/
def writtenRow (f : LevelSetFields) : LevelRow :=
  { threshold := f.threshold.toNat, refill := f.refill.toNat, barPct := f.barPct.toNat, barTime := f.barTime.toNat,
    base := f.base.toNat }

/-- A row of the staged table is replaced (R114). -/
def State.stageRow (s : State) (l : LevelId) (r : LevelRow) : State :=
  { s with governor := { s.governor with stagedTable := s.governor.stagedTable.set l r } }

/-- The decision of a LEVEL-SET (R114). -/
def decideLevelSet (f : LevelSetFields) (s : State) : State :=
  match fieldFault (levelSetChecks f) with
  | some n => s.reject .levelSet .badField n 0
  | none => (s.stageRow (toLevel f.level) (writtenRow f)).pushReply (.levelAccepted (toLevel f.level))

/-- LEVEL-SET (R114). -/
def execLevelSet (b : Body LevelSetFields) (s : State) : Host.Outcome State Fault Refusal :=
  .next (s.request (frameOf (.levelSet b)) (decideBody .levelSet b decideLevelSet))

/-- The eight settings that a TIMER-SET writes at once (R148). -/
def writtenSettings (f : TimerSetFields) : Settings :=
  { generalWait := f.generalWait.toNat, priorityWait := f.priorityWait.toNat, emergencyWait := f.emergencyWait.toNat,
    escalationTime := f.escalationTime.toNat, vacateTimeout := f.vacateTimeout.toNat,
    repeatWindow := f.repeatWindow.toNat, jitter := f.jitter.toNat,
    policy := if f.policy = 2 then .displace else .protect }

/-- The effects of an accepted TIMER-SET: eight settings, and the staged epoch period (R115, R148). -/
def State.applyTimerSet (s : State) (f : TimerSetFields) : State :=
  { s with
    settings := writtenSettings f
    governor := { s.governor with stagedPeriod := f.epochPeriod.toNat } }

/-- The decision of a TIMER-SET (R148). -/
def decideTimerSet (f : TimerSetFields) (s : State) : State :=
  match fieldFault (timerSetChecks f) with
  | some n => s.reject .timerSet .badField n 0
  | none => (s.applyTimerSet f).pushReply (.accepted .timerSet)

/-- TIMER-SET (R148). -/
def execTimerSet (b : Body TimerSetFields) (s : State) : Host.Outcome State Fault Refusal :=
  .next (s.request (frameOf (.timerSet b)) (decideBody .timerSet b decideTimerSet))

/-- The reply of SURGE-OPEN and SURGE-EXTEND: the floor and the remaining time in seconds of the window (R129, R130). -/
def State.acceptSurge (s : State) (k : RequestKind) (w : Surge) : State :=
  s.pushReply (.surgeAccepted k w.floor (surgeRemaining w s.localTime))

/-- The decision of a SURGE-OPEN (R129). -/
def decideSurgeOpen (f : SurgeOpenFields) (s : State) : State :=
  match fieldFault (surgeOpenChecks f) with
  | some n => s.reject .surgeOpen .badField n 0
  | none =>
    (s.openSurge (toLevel f.floor) f.duration.toNat).acceptSurge .surgeOpen
      { floor := toLevel f.floor, close := after s.localTime (f.duration.toNat * 1000), noticeDue := true }

/-- SURGE-OPEN (R129). -/
def execSurgeOpen (b : Body SurgeOpenFields) (s : State) : Host.Outcome State Fault Refusal :=
  .next (s.request (frameOf (.surgeOpen b)) (decideBody .surgeOpen b decideSurgeOpen))

/-- The seconds check of SURGE-EXTEND (R130). -/
def secondsFault (n : BitVec 16) : Option Nat := fieldFault [(1, decide (1 ≤ n.toNat ∧ n.toNat ≤ 3600))]

/-- The decision of a SURGE-EXTEND: the seconds are checked first, whether the window is open or closed (R130). -/
def decideSurgeExtend (n : BitVec 16) (s : State) : State :=
  match secondsFault n with
  | some k => s.reject .surgeExtend .badField k 0
  | none =>
    match s.governor.surge with
    | none => s.reject .surgeExtend .notOpen 0 0
    | some w =>
      let w' := w.extend s.localTime n.toNat
      (s.setSurge (some w')).acceptSurge .surgeExtend w'

/-- SURGE-EXTEND (R130). -/
def execSurgeExtend (b : Body (BitVec 16)) (s : State) : Host.Outcome State Fault Refusal :=
  .next (s.request (frameOf (.surgeExtend b)) (decideBody .surgeExtend b decideSurgeExtend))

/-- The decision of a SURGE-CLOSE (R132, item 2). -/
def decideSurgeClose (s : State) : State :=
  match s.governor.surge with
  | none => s.reject .surgeClose .notOpen 0 0
  | some w => (s.closeSurge w).pushReply (.accepted .surgeClose)

/-- SURGE-CLOSE (R132). -/
def execSurgeClose (b : Body Unit) (s : State) : Host.Outcome State Fault Refusal :=
  .next (s.request (frameOf (.surgeClose b)) (decideBody .surgeClose b (fun _ s1 => decideSurgeClose s1)))

end Sys2Proof.Machine
end

