-- ==== Sys2Proof/Machine/ScreenRequests.lean ====
section
/-! DEFINITION. The screening edit requests: SCREEN-SET (R29 to R31), SCREEN-HOLD (R32), SCREEN-FREE (R34), with the locked entries
of R35. -/

namespace Sys2Proof.Machine

/-- The action is ASSIGN EMERGENCY. -/
def ScreenAction.assignsEmergency : ScreenAction → Bool
  | .assign .emergency _ => true
  | _ => false

/-- A screening entry (R21). -/
def State.screenEntry (s : State) (i : ScreenIndex) : ScreenEntry := s.screening.entries.get i

/-- The state with another screening entry. -/
def State.setScreenEntry (s : State) (i : ScreenIndex) (e : ScreenEntry) : State :=
  { s with screening := { s.screening with entries := s.screening.entries.set i e } }

/-- The state with the edit hold opened or closed. -/
def State.setHold (s : State) (h : Option Hold) : State := { s with screening := { s.screening with hold := h } }

/-- The held copy of an entry, where it is the held entry (R21). -/
def State.heldCopy (s : State) (i : ScreenIndex) : Option ScreenContent :=
  match s.screening.hold with
  | some h => if h.index = i then some h.copy else none
  | none => none

/-- The entry is locked: the guard lock is set, it is enabled, and its stored action or its held copy's is ASSIGN EMERGENCY
(R35). -/
def State.screenLocked (s : State) (i : ScreenIndex) : Bool :=
  let c := (s.screenEntry i).content
  s.guardLock && c.enabled &&
    (c.action.assignsEmergency ||
      (match s.heldCopy i with
      | some h => h.action.assignsEmergency
      | none => false))

/-- A write to a disabled entry: every field is stored, and the hit count becomes 0 when the write enables it (R28, R30). -/
def State.writeDisabled (s : State) (i : ScreenIndex) (c : ScreenContent) : State :=
  s.setScreenEntry i { content := c, hits := if c.enabled then 0 else (s.screenEntry i).hits }

/-- A write to an enabled entry, by the first case of R31 that fits; none where it is refused WRITE-DENIED. -/
def State.writeEnabled (s : State) (i : ScreenIndex) (c : ScreenContent) : Option State :=
  let e := s.screenEntry i
  let held := (s.heldCopy i).isSome
  if c.mask ≠ e.content.mask ∨ c.matchValue ≠ e.content.matchValue then none
  else if ¬c.enabled then
    if held then none else some (s.setScreenEntry i { e with content := c })
  else if c.action ≠ e.content.action then
    if held then some (s.setScreenEntry i { e with content := c }) else none
  else some s

/-- The decision of a SCREEN-SET: range, lock, state (R29). -/
def decideScreenSet (f : ScreenSetFields) (s : State) : State :=
  match fieldFault (screenSetRange f) with
  | some n => s.reject .screenSet .badField n 0
  | none =>
    let i := toScreenIndex f.index
    if s.screenLocked i then s.reject .screenSet .locked 0 0
    else if (s.screenEntry i).content.enabled then
      match s.writeEnabled i (writtenContent f) with
      | some s1 => s1.pushReply (.screenAccepted .screenSet i)
      | none => s.reject .screenSet .writeDenied 0 0
    else (s.writeDisabled i (writtenContent f)).pushReply (.screenAccepted .screenSet i)

/-- SCREEN-SET (R29). -/
def execScreenSet (b : Body ScreenSetFields) (s : State) : Host.Outcome State Fault Refusal :=
  .next (s.request (frameOf (.screenSet b)) (decideBody .screenSet b decideScreenSet))

/-- The index check of a request that carries a screening index alone (R32, R194). -/
def indexFault (o : Octet) : Option Nat := fieldFault [(1, decide (o.toNat ≤ 31))]

/-- The decision of a SCREEN-HOLD (R32). The BAD-FIELD of a disabled entry names the index, the one field of the request (DEDUCED,
log 14). -/
def decideScreenHold (o : Octet) (s : State) : State :=
  match indexFault o with
  | some n => s.reject .screenHold .badField n 0
  | none =>
    let i := toScreenIndex o
    if s.screening.hold.isSome then s.reject .screenHold .busy 0 0
    else if ¬(s.screenEntry i).content.enabled then s.reject .screenHold .badField 1 0
    else if s.screenLocked i then s.reject .screenHold .locked 0 0
    else (s.setHold (some ⟨i, (s.screenEntry i).content⟩)).pushReply (.screenAccepted .screenHold i)

/-- SCREEN-HOLD (R32). -/
def execScreenHold (b : Body Octet) (s : State) : Host.Outcome State Fault Refusal :=
  .next (s.request (frameOf (.screenHold b)) (decideBody .screenHold b decideScreenHold))

/-- The decision of a SCREEN-FREE (R34). -/
def decideScreenFree (s : State) : State :=
  match s.screening.hold with
  | none => s.reject .screenFree .notOpen 0 0
  | some h =>
    if s.guardLock ∧ h.copy.action.assignsEmergency ∧ (s.screenEntry h.index).content.action ≠ h.copy.action then
      s.reject .screenFree .locked 0 0
    else (s.setHold none).pushReply (.screenAccepted .screenFree h.index)

/-- SCREEN-FREE (R34). -/
def execScreenFree (b : Body Unit) (s : State) : Host.Outcome State Fault Refusal :=
  .next (s.request (frameOf (.screenFree b)) (decideBody .screenFree b (fun _ s1 => decideScreenFree s1)))

end Sys2Proof.Machine
end

