-- ==== Sys2Proof/Machine/SectorRequests.lean ====
section
/-! DEFINITION. The four sector requests: SECTOR-SET (R10 to R15), SECTOR-DRAIN (R16, R17), SECTOR-RESUME (R18) and
SECTOR-DISABLE (R19). -/

namespace Sys2Proof.Machine

/-- The sector number check of a request that carries a sector alone (R9). -/
def sectorFault (o : Octet) : Option Nat := fieldFault [(1, decide (o.toNat ≤ 15))]

/-- The reply of an accepted sector request: the sector and its state after the request (R16, section 10.6). -/
def State.acceptSector (s : State) (k : RequestKind) (t : SectorId) : State :=
  s.pushReply (.sectorAccepted k t (s.sector t).state)

/-! ## SECTOR-SET -/

/-- The record with the six written fields; tokens above the new depth become the depth (R11). -/
def Sector.written (r : Sector) (f : SectorSetFields) : Sector :=
  { r with
    capacity := f.capacity.toNat
    generalGuard := f.generalGuard.toNat
    priorityGuard := f.priorityGuard.toNat
    neighbours := (listedNeighbours f).map toSector
    weight := f.weight.toNat
    depth := f.depth.toNat
    tokens := min r.tokens f.depth.toNat }

/-- The record of a sector being enabled (R12). -/
def Sector.enabledWith (r : Sector) (w : Option Surge) : Sector :=
  { r with state := .opened, tokens := r.depth, pressure := 0, votes := VoteHistory.cleared, level := floored w 0 }

/-- The guard lock refuses a lower stored guard (R10, item 3; R185). -/
def State.guardsLocked (s : State) (t : SectorId) (f : SectorSetFields) : Bool :=
  s.guardLock &&
    decide (f.generalGuard.toNat < (s.sector t).generalGuard ∨ f.priorityGuard.toNat < (s.sector t).priorityGuard)

/-- A slot after a change of capacity: below the new capacity a CLOSED slot becomes FREE when the capacity was raised or the sector
is being enabled (R13); at or above it a FREE slot becomes CLOSED when the capacity was cut (R14). -/
def resizedSlot (raised cut : Bool) (capacity : Nat) (n : SlotId) (x : Slot) : Slot :=
  if n.val < capacity then (if raised ∧ x = .closed then .free else x)
  else if cut ∧ x = .free then .closed else x

/-- The change of capacity over the slots listed (R13, R14). -/
def resizeSlots (raised cut : Bool) (capacity : Nat) (t : SectorId) : List SlotId → State → State
  | [], s => s
  | n :: rest, s => resizeSlots raised cut capacity t rest (s.setSlot t n (resizedSlot raised cut capacity n (s.slot t n)))

/-- The slots at or above a capacity whose earmark a cut to it drops (R14, item 4). -/
def State.cutEarmarks (s : State) (t : SectorId) (capacity : Nat) : List Place :=
  (placesOf t).filter (fun p => decide (capacity ≤ p.2.val) && (s.slot t p.2).earmarked)

/-- The sectors that a new neighbour list holds and the old one did not, in list order (R15). -/
def newNeighbours (old new : List SectorId) : List SectorId := new.filter (fun u => !old.contains u)

/-- The enabling of a DISABLED sector: its record, and the LEVEL report (R12). -/
def State.enableSector (s : State) (t : SectorId) : State :=
  let s1 := s.setSector t ((s.sector t).enabledWith s.governor.surge)
  s1.offerStatus (s1.levelReport t)

/-- The effects of an accepted SECTOR-SET, in order: fields, enabling, capacity, service walk, pass (R11 to R15). -/
def State.applySectorSet (s : State) (t : SectorId) (f : SectorSetFields) : State :=
  let old := s.sector t
  let enabling := decide (old.state = .disabled)
  let cut := decide (f.capacity.toNat < old.capacity)
  let raised := enabling || decide (old.capacity < f.capacity.toNat)
  let s1 := s.setSector t (old.written f)
  let s2 := if enabling then s1.enableSector t else s1
  let dropped := if cut then s2.cutEarmarks t f.capacity.toNat else []
  let s3 := dropEarmarks dropped (resizeSlots raised cut f.capacity.toNat t allSlots s2)
  let walk := placesOf t ++ (newNeighbours old.neighbours (s3.sector t).neighbours).flatMap placesOf
  (serveWalk walk s3).passIf (!dropped.isEmpty)

/-- The decision of a SECTOR-SET (R9, R10). -/
def decideSectorSet (f : SectorSetFields) (s : State) : State :=
  match fieldFault (sectorSetRange f) with
  | some n => s.reject .sectorSet .badField n 0
  | none =>
    match fieldFault (sectorSetConsistency f) with
    | some n => s.reject .sectorSet .badField n 0
    | none =>
      let t := toSector f.sector
      if s.guardsLocked t f then s.reject .sectorSet .locked 0 0
      else (s.applySectorSet t f).acceptSector .sectorSet t

/-- SECTOR-SET (R10). -/
def execSectorSet (b : Body SectorSetFields) (s : State) : Host.Outcome State Fault Refusal :=
  .next (s.request (frameOf (.sectorSet b)) (decideBody .sectorSet b decideSectorSet))

/-! ## SECTOR-DRAIN -/

/-- The slots of a sector that hold an earmark (R16, item 1). -/
def State.earmarkedPlaces (s : State) (t : SectorId) : List Place :=
  (placesOf t).filter (fun p => (s.slot t p.2).earmarked)

/-- The effects of an accepted SECTOR-DRAIN: DRAINING, the earmarks of its slots dropped, the DRAINED test, and a pass when an
earmark was dropped (R16, R17). -/
def State.drain (s : State) (t : SectorId) : State :=
  let dropped := s.earmarkedPlaces t
  ((dropEarmarks dropped (s.setSector t { s.sector t with state := .draining })).drainedTest t).passIf
    (!dropped.isEmpty)

/-- The decision of a SECTOR-DRAIN (R9, R16). -/
def decideSectorDrain (o : Octet) (s : State) : State :=
  match sectorFault o with
  | some n => s.reject .sectorDrain .badField n 0
  | none =>
    let t := toSector o
    match (s.sector t).state with
    | .opened => (s.drain t).acceptSector .sectorDrain t
    | .disabled => s.reject .sectorDrain .notOpen 0 0
    | .draining => s.reject .sectorDrain .notOpen 0 0
    | .drained => s.reject .sectorDrain .notOpen 0 0

/-- SECTOR-DRAIN (R16). -/
def execSectorDrain (b : Body Octet) (s : State) : Host.Outcome State Fault Refusal :=
  .next (s.request (frameOf (.sectorDrain b)) (decideBody .sectorDrain b decideSectorDrain))

/-! ## SECTOR-RESUME -/

/-- The effects of a SECTOR-RESUME of a DRAINING or DRAINED sector: OPEN, then the service walk (R18). -/
def State.resume (s : State) (t : SectorId) : State :=
  serveWalk (placesOf t) (s.setSector t { s.sector t with state := .opened })

/-- The decision of a SECTOR-RESUME (R9, R18). -/
def decideSectorResume (o : Octet) (s : State) : State :=
  match sectorFault o with
  | some n => s.reject .sectorResume .badField n 0
  | none =>
    let t := toSector o
    match (s.sector t).state with
    | .opened => s.acceptSector .sectorResume t
    | .disabled => s.reject .sectorResume .sectorDisabled 0 0
    | .draining => (s.resume t).acceptSector .sectorResume t
    | .drained => (s.resume t).acceptSector .sectorResume t

/-- SECTOR-RESUME (R18). -/
def execSectorResume (b : Body Octet) (s : State) : Host.Outcome State Fault Refusal :=
  .next (s.request (frameOf (.sectorResume b)) (decideBody .sectorResume b decideSectorResume))

/-! ## SECTOR-DISABLE -/

/-- The sector becomes DISABLED and each of its FREE slots CLOSED (R19). -/
def State.disable (s : State) (t : SectorId) : State :=
  resizeSlots false true 0 t allSlots (s.setSector t { s.sector t with state := .disabled })

/-- Some waiting entry of any list names the sector (R19). -/
def State.namedByAny (s : State) (t : SectorId) : Bool :=
  s.named .emergency t || s.named .priority t || s.named .general t

/-- The decision of a SECTOR-DISABLE (R9, R19). -/
def decideSectorDisable (o : Octet) (s : State) : State :=
  match sectorFault o with
  | some n => s.reject .sectorDisable .badField n 0
  | none =>
    let t := toSector o
    match (s.sector t).state with
    | .drained => (s.disable t).acceptSector .sectorDisable t
    | .opened =>
      if s.occupancy t = 0 ∧ ¬s.namedByAny t then (s.disable t).acceptSector .sectorDisable t
      else s.reject .sectorDisable .busy 0 0
    | .draining => s.reject .sectorDisable .busy 0 0
    | .disabled => s.acceptSector .sectorDisable t

/-- SECTOR-DISABLE (R19). -/
def execSectorDisable (b : Body Octet) (s : State) : Host.Outcome State Fault Refusal :=
  .next (s.request (frameOf (.sectorDisable b)) (decideBody .sectorDisable b decideSectorDisable))

end Sys2Proof.Machine
end

