-- ==== Sys2Proof/Machine/Management.lean ====
section
/-! DEFINITION. GUARD-LOCK (R185), AUDIT (R187, R188), the six queries (R189 to R195), RESTART (R196, R197), a frame of unknown
kind (R181) and the two ends of power-on reset (R198). -/

namespace Sys2Proof.Machine

/-! ## GUARD-LOCK -/

/-- GUARD-LOCK (R185). -/
def execGuardLock (b : Body Unit) (s : State) : Host.Outcome State Fault Refusal :=
  .next (s.request (frameOf (.guardLock b)) (decideBody .guardLock b (fun _ s1 =>
    ({ s1 with guardLock := true } : State).pushReply (.accepted .guardLock))))

/-! ## AUDIT -/

/-- A pair of an AUDIT matches its slot (R188). -/
def pairMatches (x : Slot) (tag : Tag) : Bool :=
  match x.call? with
  | some c => decide (c.tag = tag)
  | none => decide (tag = 0)

/-- The comparison of an AUDIT, `i` pairs having matched: how many pairs match before the first mismatch, and the slot there
(R188). -/
def State.auditFrom (s : State) (t : SectorId) : Nat → List AuditPair → Nat × Option Slot
  | i, [] => (i, none)
  | i, p :: rest =>
    let x := s.slot t (toSlot p.slot)
    if pairMatches x p.tag then s.auditFrom t (i + 1) rest else (i, some x)

/-- The reply of an AUDIT (R188). -/
def State.auditReply (s : State) (t : SectorId) (pairs : List AuditPair) : Reply :=
  match s.auditFrom t 0 pairs with
  | (i, none) => .audited t i 0 none
  | (i, some x) => .audited t i (i + 1) (some (x.code, (x.call?.map Call.tag).getD 0))

/-- The decision of an AUDIT. A pair count outside 1..12 makes the length wrong (R181, step 2); then the fields are checked (R187)
and the pairs compared (R188). -/
def decideAudit (f : AuditFields) (s : State) : State :=
  if 1 ≤ f.pairs.length ∧ f.pairs.length ≤ 12 then
    match fieldFault (auditChecks f) with
    | some n => s.reject .audit .badField n 0
    | none => s.pushReply (s.auditReply (toSector f.sector) f.pairs)
  else s.reject .audit .badLength 0 0

/-- AUDIT (R187, R188). -/
def execAudit (b : Body AuditFields) (s : State) : Host.Outcome State Fault Refusal :=
  .next (s.request (frameOf (.audit b)) (decideBody .audit b decideAudit))

/-! ## The queries -/

/-- QUERY-STATUS (R190). -/
def execQueryStatus (b : Body Unit) (s : State) : Host.Outcome State Fault Refusal :=
  .next (s.request (frameOf (.queryStatus b)) (decideBody .queryStatus b (fun _ s1 =>
    s1.pushReply (.status s1.statusInfo))))

/-- The decision of a QUERY-SECTOR (R191). -/
def decideQuerySector (o : Octet) (s : State) : State :=
  match sectorFault o with
  | some n => s.reject .querySector .badField n 0
  | none => s.pushReply (.sectorInfo (toSector o) (s.sector (toSector o)) (s.slotCounts (toSector o)))

/-- QUERY-SECTOR (R191). -/
def execQuerySector (b : Body Octet) (s : State) : Host.Outcome State Fault Refusal :=
  .next (s.request (frameOf (.querySector b)) (decideBody .querySector b decideQuerySector))

/-- The slot records of a QUERY-SLOTS reply: up to twelve from the first slot on (R192). -/
def State.slotRecords (s : State) (t : SectorId) (first : SlotId) : List Slot :=
  ((s.slots.get t).toList.drop first.val).take 12

/-- The decision of a QUERY-SLOTS (R192). -/
def decideQuerySlots (f : QuerySlotsFields) (s : State) : State :=
  match fieldFault (querySlotsChecks f) with
  | some n => s.reject .querySlots .badField n 0
  | none =>
    s.pushReply (.slotsInfo (toSector f.sector) (toSlot f.firstSlot)
      (s.slotRecords (toSector f.sector) (toSlot f.firstSlot)))

/-- QUERY-SLOTS (R192). -/
def execQuerySlots (b : Body QuerySlotsFields) (s : State) : Host.Outcome State Fault Refusal :=
  .next (s.request (frameOf (.querySlots b)) (decideBody .querySlots b decideQuerySlots))

/-- The entries of a QUERY-LIST reply: up to eight from the start position, counted from 1 (R193). -/
def listRecords (l : List Waiting) (start : Nat) : List Waiting := (l.drop (start - 1)).take 8

/-- The decision of a QUERY-LIST (R193). -/
def decideQueryList (f : QueryListFields) (s : State) : State :=
  match fieldFault (queryListChecks f) with
  | some n => s.reject .queryList .badField n 0
  | none =>
    let c := (CallClass.ofCode f.cls).getD .emergency
    s.pushReply (.listInfo c f.start.toNat (s.waiting c).length (listRecords (s.waiting c) f.start.toNat))

/-- QUERY-LIST (R193). -/
def execQueryList (b : Body QueryListFields) (s : State) : Host.Outcome State Fault Refusal :=
  .next (s.request (frameOf (.queryList b)) (decideBody .queryList b decideQueryList))

/-- The decision of a QUERY-SCREEN (R194). -/
def decideQueryScreen (o : Octet) (s : State) : State :=
  match indexFault o with
  | some n => s.reject .queryScreen .badField n 0
  | none =>
    s.pushReply (.screenInfo (toScreenIndex o) (s.screenEntry (toScreenIndex o)) (s.heldCopy (toScreenIndex o)))

/-- QUERY-SCREEN (R194). -/
def execQueryScreen (b : Body Octet) (s : State) : Host.Outcome State Fault Refusal :=
  .next (s.request (frameOf (.queryScreen b)) (decideBody .queryScreen b decideQueryScreen))

/-- QUERY-LEVELS (R195). -/
def execQueryLevels (b : Body Unit) (s : State) : Host.Outcome State Fault Refusal :=
  .next (s.request (frameOf (.queryLevels b)) (decideBody .queryLevels b (fun _ s1 =>
    s1.pushReply (.levelsInfo s1.governor.activePeriod s1.governor.stagedPeriod s1.governor.activeTable
      s1.governor.stagedTable))))

/-! ## RESTART -/

/-- A VACATING slot loses its beneficiary; its attempt, its deadline and a pending expiry are kept (R20, R112). -/
def Slot.restarted : Slot → Slot
  | .vacating c v => .vacating c { v with beneficiary := none }
  | x => x

/-- A sector's vote history becomes HOLD, HOLD, HOLD (R20, R134). -/
def Sector.restarted (r : Sector) : Sector := { r with votes := VoteHistory.cleared }

/-- The stored action of the held entry after RESTART: a locked ASSIGN EMERGENCY over a held copy of another action is kept, any
other pending edit is lost to the held copy (R36). -/
def State.revertedAction (s : State) (h : Hold) : ScreenAction :=
  let a := (s.screenEntry h.index).content.action
  if s.guardLock ∧ a.assignsEmergency ∧ ¬h.copy.action.assignsEmergency then a else h.copy.action

/-- The screening table after RESTART: an open hold is closed, and every hit count is 0 (R28, R36). -/
def State.restartScreening (s : State) : State :=
  let s1 := match s.screening.hold with
    | none => s
    | some h =>
      let e := s.screenEntry h.index
      (s.setScreenEntry h.index { e with content := { e.content with action := s.revertedAction h } }).setHold none
  { s1 with screening := { s1.screening with entries := s1.screening.entries.map (fun e => { e with hits := 0 }) } }

/-- The link port after RESTART: the unsent status reports, the counters and the noise run are cleared (R168, R184). -/
def LinkPort.restarted (k : LinkPort) : LinkPort :=
  { k with statusLane := k.statusLane.take k.statusInTransmission, gapCount := 0, checkCount := 0, overrunCount := 0,
           noiseRun := 0 }

/-- The governor after RESTART: the window is closed and the epoch timer restarted (R134). -/
def Governor.restarted (g : Governor) (now : Time) : Governor :=
  { g with nextBoundary := after now g.activePeriod, surge := none }

/-- The effects of RESTART on every block, at one instant (R197). -/
def State.restart (s : State) : State :=
  let s1 := s.restartScreening
  { s1 with
    link := s1.link.restarted
    sectors := s1.sectors.map Sector.restarted
    slots := s1.slots.map (fun row => row.map Slot.restarted)
    emergency := []
    priority := []
    general := []
    serviceDeferred := false
    passDeferred := false
    retrySignal := false
    passSignal := false
    governor := s1.governor.restarted s1.localTime
    repeatTable := [] }

/-- RESTART: its effects, and DONE with the numbers of entries discarded (R196). -/
def execRestart (b : Body Unit) (s : State) : Host.Outcome State Fault Refusal :=
  .next (s.request (frameOf (.restart b)) (decideBody .restart b (fun _ s1 =>
    s1.restart.pushReply (.done s1.emergency.length s1.priority.length s1.general.length))))

/-! ## A frame of unknown kind -/

/-- A frame whose kind octet names no request is answered REJECT UNKNOWN-KIND, carrying the kind octet (R181, R182). -/
def execUnknownKind (kind : Octet) (body : List Octet) (s : State) : Host.Outcome State Fault Refusal :=
  .next (s.request (frameOf (.unknownKind kind body)) (fun s1 => s1.pushReply (.reject none .unknownKind kind 0)))

/-! ## Power-on reset -/

/-- Power-on reset: every block at its power-on values, everything held is lost (R198). The commands that wait are the sender's and
stay (log 1), and the count of free choices goes on (log 3). -/
def execPowerOnReset (s : State) : Host.Outcome State Fault Refusal :=
  .next { State.powerOn with pending := s.pending, choices := s.choices }

/-- The rate that the straps select, true for high (R170). -/
def rateOf (bsel1 bsel0 : Bool) : Rate :=
  match bsel1, bsel0 with
  | false, false => .r460800
  | false, true => .r921600
  | true, false => .r1843200
  | true, true => .r3686400

/-- The reset ends: local time is 0 and starts, the straps are sampled, the receiver is in HUNT and watches for a start edge, the
taken THOLD level is deasserted and the first boundary is due at 1000 (R170, R172, R184,
R198). A part that is not in reset is not changed (log 5). -/
def execResetEnd (bsel1 bsel0 : Bool) (s : State) : Host.Outcome State Fault Refusal :=
  .next (if s.inReset then
    { s with
      inReset := false
      localTime := 0
      link := { s.link with rate := rateOf bsel1 bsel0, receiver := .hunt, lineLow := false, thold := false }
      governor := { s.governor with nextBoundary := 1000 } }
  else s)

end Sys2Proof.Machine
end

