-- ==== Sys2Proof/Machine/Dispatch.lean ====
section
/-! DEFINITION. What each command does to everything but the queue: one arm per constructor of `Instr`. -/

namespace Sys2Proof.Machine

def exec (i : Instr) (s : State) : Host.Outcome State Fault Refusal :=
  match i with
  | .admitCall b => Sys2Proof.Machine.execAdmitCall b s
  | .release b => Sys2Proof.Machine.execRelease b s
  | .cancel b => Sys2Proof.Machine.execCancel b s
  | .sectorSet b => Sys2Proof.Machine.execSectorSet b s
  | .sectorDrain b => Sys2Proof.Machine.execSectorDrain b s
  | .sectorResume b => Sys2Proof.Machine.execSectorResume b s
  | .sectorDisable b => Sys2Proof.Machine.execSectorDisable b s
  | .screenSet b => Sys2Proof.Machine.execScreenSet b s
  | .screenHold b => Sys2Proof.Machine.execScreenHold b s
  | .screenFree b => Sys2Proof.Machine.execScreenFree b s
  | .levelSet b => Sys2Proof.Machine.execLevelSet b s
  | .timerSet b => Sys2Proof.Machine.execTimerSet b s
  | .surgeOpen b => Sys2Proof.Machine.execSurgeOpen b s
  | .surgeExtend b => Sys2Proof.Machine.execSurgeExtend b s
  | .surgeClose b => Sys2Proof.Machine.execSurgeClose b s
  | .guardLock b => Sys2Proof.Machine.execGuardLock b s
  | .audit b => Sys2Proof.Machine.execAudit b s
  | .queryStatus b => Sys2Proof.Machine.execQueryStatus b s
  | .querySector b => Sys2Proof.Machine.execQuerySector b s
  | .querySlots b => Sys2Proof.Machine.execQuerySlots b s
  | .queryList b => Sys2Proof.Machine.execQueryList b s
  | .queryScreen b => Sys2Proof.Machine.execQueryScreen b s
  | .queryLevels b => Sys2Proof.Machine.execQueryLevels b s
  | .restart b => Sys2Proof.Machine.execRestart b s
  | .unknownKind kind body => Sys2Proof.Machine.execUnknownKind kind body s
  | .goodFrame o => Sys2Proof.Machine.execGoodFrame o s
  | .badLengthOctet o => Sys2Proof.Machine.execBadLengthOctet o s
  | .gapTimeout => Sys2Proof.Machine.execGapTimeout s
  | .tholdAsserted n => Sys2Proof.Machine.execTholdAsserted n s
  | .tholdDeasserted n => Sys2Proof.Machine.execTholdDeasserted n s
  | .frameBoundary => Sys2Proof.Machine.execFrameBoundary s
  | .frameEnd => Sys2Proof.Machine.execFrameEnd s
  | .deferredServiceRetry => Sys2Proof.Machine.execDeferredServiceRetry s
  | .deferredPass => Sys2Proof.Machine.execDeferredPass s
  | .waitingExpiry tag => Sys2Proof.Machine.execWaitingExpiry tag s
  | .escalation tag => Sys2Proof.Machine.execEscalation tag s
  | .vacateExpiry t n => Sys2Proof.Machine.execVacateExpiry t n s
  | .epochBoundary => Sys2Proof.Machine.execEpochBoundary s
  | .closingPoint => Sys2Proof.Machine.execClosingPoint s
  | .surgeExpiry => Sys2Proof.Machine.execSurgeExpiry s
  | .powerOnReset => Sys2Proof.Machine.execPowerOnReset s
  | .resetEnd b1 b0 => Sys2Proof.Machine.execResetEnd b1 b0 s
  | .octetDelivered c => Sys2Proof.Machine.execOctetDelivered c s

end Sys2Proof.Machine
end

