-- ==== Sys2Proof/Machine/Idle.lean ====
section
/-! DEFINITION. What the part does by itself when no command waits (DESIGN CHOICE, log 2): it takes an event that is due, or lets
one millisecond of local time pass (R146). Which of several events of one instant it takes is a free choice (log 3). -/

namespace Sys2Proof.Machine

/-- The rate in bits per second (R170). -/
def Rate.bps : Rate → Nat
  | .r460800 => 460800
  | .r921600 => 921600
  | .r1843200 => 1843200
  | .r3686400 => 3686400

/-- A condition's event, where the condition holds. -/
def eventIf (c : Bool) (i : Instr) : List Instr := if c then [i] else []

/-- The waiting entries of every list. -/
def State.allWaiting (s : State) : List Waiting := s.emergency ++ s.priority ++ s.general

/-- A watched deadline is reached and its lateness is at the bound of the sweep (R153). -/
def overdue (deadline now : Time) : Bool := decide ((Config.sweepLateness : Int) ≤ signedDiff now deadline)

/-- The waiting expiries of the entries that a test holds of. -/
def State.waitingEvents (s : State) (p : Waiting → Bool) : List Instr :=
  (s.allWaiting.filter p).map (fun e => .waitingExpiry e.tag)

/-- The escalations of the emergency entries whose escalation point a test holds of. -/
def State.escalationEvents (s : State) (p : Time → Bool) : List Instr :=
  (s.emergency.filter (fun e => (e.escalationPoint.map p).getD false)).map (fun e => .escalation e.tag)

/-- The slot is VACATING and a test holds of its vacate part. -/
def Slot.vacateTest (p : Vacate → Bool) : Slot → Bool
  | .vacating _ v => p v
  | _ => false

/-- The vacate expiries of the VACATING slots that a test holds of. -/
def State.vacateEvents (s : State) (p : Vacate → Bool) : List Instr :=
  (allPlaces.filter (fun q => (s.slot q.1 q.2).vacateTest p)).map (fun q => .vacateExpiry q.1 q.2)

/-- The events of a room-appeared signal that is not yet answered (R76, R154, R161). -/
def State.signalEvents (s : State) : List Instr :=
  eventIf s.retrySignal .deferredServiceRetry ++ eventIf (s.passSignal && !s.retrySignal) .deferredPass ++
    s.waitingEvents (fun e => e.watch.isSignalled) ++ s.vacateEvents (fun v => v.watch.isSignalled)

/-- The exact timers whose time is reached (R156). -/
def State.timerEvents (s : State) : List Instr :=
  eventIf (reached s.governor.nextBoundary s.localTime) .epochBoundary ++
    (match s.governor.surge with
    | some w =>
      eventIf (w.noticeDue && closingReached w s.localTime) .closingPoint ++
        eventIf (reached w.close s.localTime) .surgeExpiry
    | none => [])

/-- The sweep's expiries whose lateness test, over the deadline, holds (R153). -/
def State.sweepEvents (s : State) (late : Time → Bool) : List Instr :=
  s.waitingEvents (fun e => decide (e.watch = .watched) && late e.deadline) ++ s.escalationEvents late ++
    s.vacateEvents (fun v => decide (v.watch = .watched) && late v.deadline)

/-- The decoder takes the head of the request queue when the reply queue has room (R181). -/
def State.decoderEvents (s : State) : List Instr :=
  match s.link.requestQueue with
  | f :: _ => eventIf s.replyRoom (commandOfFrame f)
  | [] => []

/-- The transmitter stands idle, THOLD is deasserted and something is to be sent (R166). -/
def State.boundaryEvents (s : State) : List Instr :=
  eventIf (s.link.sending.isNone && !s.link.thold &&
    !(s.link.actionLane.isEmpty && s.link.replyQueue.isEmpty && s.link.statusLane.isEmpty)) .frameBoundary

/-- The whole of the frame in transmission has been sent after that many milliseconds, at ten bits a character (R170, R172). -/
def LinkPort.sentAfter (k : LinkPort) (d : Sending) (ms : Nat) : Bool :=
  decide (10 * d.octets.length * 1000 ≤ ms * k.rate.bps)

/-- The end of the frame in transmission, when it must have come, or may have come within this millisecond (log 9). -/
def State.frameEndEvents (s : State) (extra : Nat) : List Instr :=
  match s.link.sending with
  | some d => eventIf (s.link.sentAfter d (d.elapsed + extra)) .frameEnd
  | none => []

/-- The gap timer has run past 1 ms at the latest when local time next rises (R176; log 9). -/
def State.gapEvents (s : State) : List Instr :=
  eventIf (decide (s.link.receiver ≠ .hunt) && decide (1 ≤ s.link.gapTicks)) .gapTimeout

/-- The events that must be taken before local time rises again. -/
def State.dueEvents (s : State) : List Instr :=
  s.signalEvents ++ s.timerEvents ++ s.sweepEvents (fun d => overdue d s.localTime) ++ s.decoderEvents ++
    s.boundaryEvents ++ s.frameEndEvents 0 ++ s.gapEvents

/-- The events that may be taken now or later: a sweep deadline reached within its lateness (R153), the end of a frame within this
millisecond. -/
def State.freeEvents (s : State) : List Instr :=
  s.sweepEvents (fun d => reached d s.localTime && !overdue d s.localTime) ++
    (if s.frameEndEvents 0 = [] then s.frameEndEvents 1 else [])

/-- What the part may do by itself at this instant; `none` stands for letting a millisecond pass. The answers to a room-appeared
signal are made at the instant of the signal (R76, R154, R161), and the frame boundary is taken at once (R166), so they come before
every other event. In which order an answer and a boundary of one instant come makes no difference to the frame begun (log 10). -/
def State.idleOptions (s : State) : List (Option Instr) :=
  if s.signalEvents ≠ [] then s.signalEvents.map some
  else if s.boundaryEvents ≠ [] then s.boundaryEvents.map some
  else (s.dueEvents ++ s.freeEvents).map some ++ (if s.dueEvents = [] then [none] else [])

/-- One option of a list, by a free number (log 3). -/
def pick (l : List (Option Instr)) (k : Nat) : Option Instr := (l[k % l.length]?).getD none

/-- One millisecond of local time passes (R146), with the gap timer and the frame in transmission going on. -/
def State.tick (s : State) : State :=
  { s with
    localTime := s.localTime + 1
    link := { s.link with
      gapTicks := if s.link.receiver = .hunt then 0 else s.link.gapTicks + 1
      sending := s.link.sending.map (fun d => { d with elapsed := d.elapsed + 1 }) } }

/-- An event taken by the part itself, or a millisecond. -/
def State.idleTake (s : State) (o : Option Instr) : Host.Outcome State Fault Refusal :=
  match o with
  | some c => exec c s
  | none => .next s.tick

/-- The part with no command waiting: held in reset it stands still (R198); with one option it takes it; with several the choice is
free (log 2, log 3). -/
def State.idle (s : State) : Host.Outcome State Fault Refusal :=
  if s.inReset then .next s
  else
    match s.idleOptions with
    | [o] => s.idleTake o
    | l => ({ s with choices := s.choices + 1 } : State).idleTake (pick l (Config.choice s.choices))

end Sys2Proof.Machine
end

