-- ==== Sys2Proof/Safety.lean ====
section
/-! DEFINITION. The terms that statements use: when the decoder takes a request and what that leaves (R181), held tags (R39), what
it is to pass the checks of an ADMIT (R38) and of a SECTOR-SET (R10), and the laws that every step keeps: bounds of queues, lists and
counters; the lanes; ranges of configuration and governor fields; the laws of slots and sector states; the pairing of tags, entries
and earmarks; the screening table; the timers; the part held in reset. -/

namespace Sys2Proof.Machine

/-! ## Taking a request -/

/-- The decoder takes this frame at this instant: the part is not in reset, the reply queue holds fewer than 8 replies, and the frame
is the head of the request queue (R180, R181). -/
def State.TakesFrame (s : State) (f : Frame) : Prop :=
  s.inReset = false ∧ s.link.replyQueue.length < 8 ∧ s.link.requestQueue.head? = some f

/-- The decoder takes the frame of this request command at this instant. -/
def State.Takes (s : State) (i : Instr) : Prop := ∃ f, frameOf i = some f ∧ s.TakesFrame f

/-- A frame that arrives at this instant is taken at this instant: the request queue is empty and the reply queue has room (DESIGN
CHOICE, unsafe, log 4). -/
def State.TakesOnArrival (s : State) : Prop :=
  s.inReset = false ∧ s.link.replyQueue.length < 8 ∧ s.link.requestQueue = []

/-- The state with the head of the request queue taken: the frame has left the queue (R180). -/
def State.afterTaking (s : State) : State :=
  { s with link := { s.link with requestQueue := s.link.requestQueue.drop 1 } }

/-! ## Held tags and the checks of ADMIT -/

/-- The part holds this tag: a waiting entry or a slot's call part carries it (R39). -/
def State.Holds (s : State) (tag : Tag) : Prop :=
  (∃ e ∈ s.emergency ++ s.priority ++ s.general, e.tag = tag) ∨
    ∃ t n c, (s.slot t n).call? = some c ∧ c.tag = tag

/-- The ADMIT passes its request checks (R38). -/
def State.PassesChecks (s : State) (f : AdmitFields) : Prop :=
  f.tag ≠ 0 ∧ f.sector.toNat ≤ 15 ∧ f.accessClass.toNat ≤ 15 ∧ f.cause.toNat ≤ 1 ∧
    (s.sector (toSector f.sector)).state ≠ .disabled ∧ ¬s.Holds f.tag

/-- The outcome of classification for an ADMIT at this instant (R24 to R27). -/
def State.classOf (s : State) (f : AdmitFields) : Classified := s.outcome f (s.scanWinner (screenKey f))

/-- The state in which an ADMIT is decided: its frame taken, and the winner's hit counted (R24, R181). -/
def State.classified (s : State) (f : AdmitFields) : State := s.afterTaking.afterScan (s.scanWinner (screenKey f))

/-- An emergency entry is eligible for a sector (R3). -/
def State.EligibleFor (s : State) (e : Waiting) (t : SectorId) : Prop :=
  e.sector = t ∨ t ∈ (s.sector e.sector).neighbours

/-- The slot is the lowest-index FREE slot of its sector (R43). -/
def State.LowestFree (s : State) (t : SectorId) (n : SlotId) : Prop :=
  s.slot t n = .free ∧ ∀ m : SlotId, m < n → s.slot t m ≠ .free

/-- The SECTOR-SET passes its checks (R9, R10): every field in range, the configuration consistent, no guard lowered under the
lock. -/
structure State.AcceptsSectorSet (s : State) (f : SectorSetFields) : Prop where
  sector : f.sector.toNat ≤ 15
  capacity : f.capacity.toNat ≤ 24
  guards : f.priorityGuard.toNat ≤ f.generalGuard.toNat ∧ f.generalGuard.toNat ≤ 24
  neighbourCount : f.neighbourCount.toNat ≤ 3
  neighbours : ∀ o ∈ listedNeighbours f, o.toNat ≤ 15 ∧ o ≠ f.sector
  neighboursDistinct : (listedNeighbours f).Nodup
  weight : 1 ≤ f.weight.toNat ∧ f.weight.toNat ≤ 16
  depth : 1 ≤ f.depth.toNat
  lock : s.guardLock = true → (s.sector (toSector f.sector)).generalGuard ≤ f.generalGuard.toNat ∧
    (s.sector (toSector f.sector)).priorityGuard ≤ f.priorityGuard.toNat

/-- A sequence of reports offered to the status lane, in order (R157, R164). -/
def State.offerAll (s : State) (l : List StatusReport) : State := l.foldl State.offerStatus s

/-- A waiting entry whose earmark names one of these slots has it cleared (R14, R16, R111). -/
def Waiting.withoutEarmarkOn (e : Waiting) (dropped : Place → Bool) : Waiting :=
  { e with earmark := e.earmark.filter (fun p => !dropped p) }

/-! ## The lanes and the receiver (R158, R164, R173, R175) -/

/-- The receiver holds no more octets than its length octet, 1..248, announces. -/
def Receiver.InBounds : Receiver → Prop
  | .hunt => True
  | .length => True
  | .body n got => 1 ≤ n ∧ n ≤ 248 ∧ got.length < n
  | .check got _ => 1 ≤ got.length ∧ got.length ≤ 248

/-- The frame in transmission is the frame of the head of its lane or queue, so a report in transmission is not replaced; and no
unsent status report is one that a later one supersedes: at most one LEVEL for each sector and one SURGE are unsent (R158, R164,
R183). -/
structure State.LanesLawful (s : State) : Prop where
  action : ∀ d, s.link.sending = some d → d.source = .action →
    ∃ a, s.link.actionLane.head? = some a ∧ d.octets = wireFrame a.kind a.body
  reply : ∀ d, s.link.sending = some d → d.source = .reply →
    ∃ r, s.link.replyQueue.head? = some r ∧ d.octets = wireFrame r.kind r.body
  status : ∀ d, s.link.sending = some d → d.source = .status →
    ∃ x, s.link.statusLane.head? = some x ∧ d.octets = wireFrame x.kind x.body
  unsent : (s.link.statusLane.drop s.link.statusInTransmission).Pairwise (fun old new => new.supersedes old = false)

/-! ## Bounds (R28, R41, R62, R63, R135, R157, R165, R178 to R180, R182) -/

/-- Queues, lanes, lists, table and counters hold no more than the spec gives them. -/
structure State.InBounds (s : State) : Prop where
  actionLane : s.link.actionLane.length ≤ 48
  statusLane : s.link.statusLane.length ≤ 32
  requestQueue : s.link.requestQueue.length ≤ 8
  replyQueue : s.link.replyQueue.length ≤ 8
  noiseRun : s.link.noiseRun ≤ 3
  gapCount : s.link.gapCount ≤ 65535
  checkCount : s.link.checkCount ≤ 65535
  overrunCount : s.link.overrunCount ≤ 65535
  statusLost : s.link.statusLost ≤ 65535
  emergencyFull : s.emergencyFull ≤ 65535
  emergency : s.emergency.length ≤ 32
  priority : s.priority.length ≤ 48
  general : s.general.length ≤ 96
  merged : ∀ e ∈ s.emergency, e.merged ≤ 255
  hits : ∀ i : ScreenIndex, (s.screenEntry i).hits ≤ 65535
  receiver : s.link.receiver.InBounds
  repeatTable : s.repeatTable.length ≤ 128
  repeatCounts : ∀ r ∈ s.repeatTable, 1 ≤ r.count ∧ r.count ≤ 4 ∧ r.key ≠ 0
  repeatKeys : (s.repeatTable.map RepeatEntry.key).Nodup

/-! ## Ranges of configuration and governor fields (R1, R113, R115, R133, R148) -/

/-- A sector record whose fields lie in the ranges of R1. -/
structure Sector.InRange (t : SectorId) (r : Sector) : Prop where
  capacity : r.capacity ≤ 24
  generalGuard : r.generalGuard ≤ 24
  priorityGuard : r.priorityGuard ≤ r.generalGuard
  neighbourCount : r.neighbours.length ≤ 3
  neighboursDistinct : r.neighbours.Nodup
  neighbourNotSelf : t ∉ r.neighbours
  weight : 1 ≤ r.weight ∧ r.weight ≤ 16
  depth : 1 ≤ r.depth ∧ r.depth ≤ 255
  tokens : r.tokens ≤ r.depth
  pressure : r.pressure ≤ 4095

/-- A level table row whose fields lie in the ranges of R113. -/
def LevelRow.InRange (l : LevelId) (r : LevelRow) : Prop :=
  r.threshold ≤ 4095 ∧ (l = 0 → r.threshold = 0) ∧ r.refill ≤ 255 ∧ r.barPct ≤ 100 ∧ r.barPct % 5 = 0 ∧
    4 ≤ r.barTime ∧ r.barTime ≤ 512 ∧ r.base ≤ 4095

/-- An epoch period in the range of R115. -/
def PeriodInRange (p : Nat) : Prop := 100 ≤ p ∧ p ≤ 5000 ∧ p % 100 = 0

/-- Settings in the ranges of R148. -/
structure Settings.InRange (g : Settings) : Prop where
  generalWait : 1 ≤ g.generalWait ∧ g.generalWait ≤ 255
  priorityWait : 1 ≤ g.priorityWait ∧ g.priorityWait ≤ 255
  emergencyWait : 1 ≤ g.emergencyWait ∧ g.emergencyWait ≤ 255
  escalationTime : g.escalationTime ≤ 60
  vacateTimeout : 200 ≤ g.vacateTimeout ∧ g.vacateTimeout ≤ 10000
  repeatWindow : 1 ≤ g.repeatWindow ∧ g.repeatWindow ≤ 600
  jitter : g.jitter ≤ 4095

/-- Configuration and governor fields lie in their ranges, and an open surge window's floor lies under every level (R133). -/
structure State.InRange (s : State) : Prop where
  sectors : ∀ t : SectorId, (s.sector t).InRange t
  activeTable : ∀ l : LevelId, (s.governor.activeTable.get l).InRange l
  stagedTable : ∀ l : LevelId, (s.governor.stagedTable.get l).InRange l
  activePeriod : PeriodInRange s.governor.activePeriod
  stagedPeriod : PeriodInRange s.governor.stagedPeriod
  settings : s.settings.InRange
  floor : ∀ w, s.governor.surge = some w → ∀ t : SectorId, (s.sector t).state ≠ .disabled → w.floor ≤ (s.sector t).level

/-! ## Slots and sector states (R4, R6, R17, R19) -/

/-- A slot without a call is FREE exactly when it is usable (R6); a DISABLED or DRAINED sector has no occupied slot and a DRAINING
one has (R4, R19); a slot with a beneficiary stands below the capacity of an OPEN sector (R99). -/
structure State.SlotsLawful (s : State) : Prop where
  free : ∀ (t : SectorId) (n : SlotId), (s.slot t n).call? = none →
    (s.slot t n = .free ↔ n.val < (s.sector t).capacity ∧ (s.sector t).state ≠ .disabled)
  empty : ∀ t : SectorId, (s.sector t).state = .disabled ∨ (s.sector t).state = .drained → s.occupancy t = 0
  draining : ∀ t : SectorId, (s.sector t).state = .draining → 0 < s.occupancy t
  earmarked : ∀ (t : SectorId) (n : SlotId), (s.slot t n).earmarked = true →
    (s.sector t).state = .opened ∧ n.val < (s.sector t).capacity

/-! ## Tags, entries and earmarks (R39, R41, R63, R88) -/

/-- The tags of the waiting entries. -/
def State.waitingTags (s : State) : List Tag := (s.emergency ++ s.priority ++ s.general).map Waiting.tag

/-- The beneficiary tag of a slot (R5). -/
def Slot.beneficiary? : Slot → Option Tag
  | .vacating _ v => v.beneficiary
  | _ => none

/-- Every held tag is non-zero and held by one record (R39); lists hold their own class, with no key twice among emergency entries
but 0 (R41, R63); earmarks pair entries and slots from both sides (R88); no emergency call is preemptible, nor in a VACATING or
STUCK slot (R7, R90). -/
structure State.RecordsPaired (s : State) : Prop where
  waitingTags : s.waitingTags.Nodup
  waitingTagNonzero : ∀ e ∈ s.emergency ++ s.priority ++ s.general, e.tag ≠ 0
  slotTagNonzero : ∀ t n c, (s.slot t n).call? = some c → c.tag ≠ 0 ∧ c.tag ∉ s.waitingTags
  slotTags : ∀ t n c u m d, (s.slot t n).call? = some c → (s.slot u m).call? = some d → c.tag = d.tag → t = u ∧ n = m
  emergencyClass : ∀ e ∈ s.emergency, e.cls = .emergency ∧ e.preemptible = false
  priorityClass : ∀ e ∈ s.priority, e.cls = .priority ∧ e.earmark = none
  generalClass : ∀ e ∈ s.general, e.cls = .general ∧ e.earmark = none
  keys : ∀ e ∈ s.emergency, ∀ f ∈ s.emergency, e.key = f.key → e.key ≠ 0 → e.tag = f.tag
  earmarks : ∀ e ∈ s.emergency, ∀ p : Place, e.earmark = some p ↔ (s.slot p.1 p.2).beneficiary? = some e.tag
  beneficiaries : ∀ t n b, (s.slot t n).beneficiary? = some b → ∃ e ∈ s.emergency, e.tag = b
  emergencyCalls : ∀ t n c, (s.slot t n).call? = some c → c.cls = .emergency →
    c.preemptible = false ∧ s.slot t n = .active c

/-! ## The screening table (R21, R23, R33) -/

/-- Stored match values are reduced by their masks, bar reasons are 1..15, and the held entry is enabled with a held copy that
differs from it in its action at most. -/
structure State.ScreenLawful (s : State) : Prop where
  reduced : ∀ i : ScreenIndex,
    (s.screenEntry i).content.matchValue &&& (s.screenEntry i).content.mask = (s.screenEntry i).content.matchValue
  reason : ∀ (i : ScreenIndex) (r : Fin 16), (s.screenEntry i).content.action = .bar r → 1 ≤ r.val
  held : ∀ h, s.screening.hold = some h →
    (s.screenEntry h.index).content.enabled = true ∧
      h.copy = { (s.screenEntry h.index).content with action := h.copy.action }

/-! ## Power-on reset and the timers (R115, R128, R146, R153, R156, R198) -/

/-- A part held in reset stands at the power-on values (R198, item 1), those of the model's choosing among them: the rate (log 7), the
signal fields (log 8) and the gap timer (log 9). -/
def State.ResetHeld (s : State) : Prop :=
  s.inReset = true → s = { State.powerOn with pending := s.pending, choices := s.choices }

/-- A watched deadline set at most `lead` ms ahead is at most 10 ms past (R153). -/
def SweepOnTime (now deadline : Time) (lead : Int) : Prop :=
  -lead ≤ signedDiff now deadline ∧ signedDiff now deadline ≤ 10

/-- Local time has not passed the next boundary nor a surge point (R156), and no deadline that the sweep still watches is more than
10 ms past (R153). The longest leads are those of R147. -/
structure State.OnTime (s : State) : Prop where
  boundary : 0 ≤ signedDiff s.governor.nextBoundary s.localTime ∧
    signedDiff s.governor.nextBoundary s.localTime ≤ 5000
  surge : ∀ w, s.governor.surge = some w →
    0 ≤ signedDiff w.close s.localTime ∧ signedDiff w.close s.localTime ≤ 3600000 ∧
      (w.noticeDue = true → 10000 ≤ signedDiff w.close s.localTime)
  waiting : ∀ e ∈ s.emergency ++ s.priority ++ s.general, e.watch = .watched → SweepOnTime s.localTime e.deadline 255000
  escalation : ∀ e ∈ s.emergency, ∀ p, e.escalationPoint = some p → SweepOnTime s.localTime p 60000
  vacate : ∀ t n c v, s.slot t n = .vacating c v → v.watch = .watched → SweepOnTime s.localTime v.deadline 10000

end Sys2Proof.Machine
end

