-- ==== Sys2Proof/WellFormed.lean ====
section
/-! DEFINITION. Which commands a link can carry: a request's frame has at most 248 octets of kind and body (R173), a body marked
as of wrong length is of wrong length (R181), an AUDIT names 1..12 pairs (R187), an unknown kind names no request (R181). -/

namespace Sys2Proof

/-- A request body that a frame of this kind can bring: `fields` says whether its fields can stand in a frame. -/
def Body.wellFormed {α : Type} (k : RequestKind) (fields : α → Bool) : Body α → Bool
  | .ok a => fields a
  | .badLength l => decide (l.length ≤ 247) && !k.bodyFits l

/-- The commands that the part can meet. -/
def WellFormed (i : Instr) : Bool :=
  match i with
  | .admitCall b => b.wellFormed .admitCall (fun _ => true)
  | .release b => b.wellFormed .release (fun _ => true)
  | .cancel b => b.wellFormed .cancel (fun _ => true)
  | .sectorSet b => b.wellFormed .sectorSet (fun _ => true)
  | .sectorDrain b => b.wellFormed .sectorDrain (fun _ => true)
  | .sectorResume b => b.wellFormed .sectorResume (fun _ => true)
  | .sectorDisable b => b.wellFormed .sectorDisable (fun _ => true)
  | .screenSet b => b.wellFormed .screenSet (fun _ => true)
  | .screenHold b => b.wellFormed .screenHold (fun _ => true)
  | .screenFree b => b.wellFormed .screenFree (fun _ => true)
  | .levelSet b => b.wellFormed .levelSet (fun _ => true)
  | .timerSet b => b.wellFormed .timerSet (fun _ => true)
  | .surgeOpen b => b.wellFormed .surgeOpen (fun _ => true)
  | .surgeExtend b => b.wellFormed .surgeExtend (fun _ => true)
  | .surgeClose b => b.wellFormed .surgeClose (fun _ => true)
  | .guardLock b => b.wellFormed .guardLock (fun _ => true)
  | .audit b => b.wellFormed .audit (fun f => decide (1 ≤ f.pairs.length) && decide (f.pairs.length ≤ 12))
  | .queryStatus b => b.wellFormed .queryStatus (fun _ => true)
  | .querySector b => b.wellFormed .querySector (fun _ => true)
  | .querySlots b => b.wellFormed .querySlots (fun _ => true)
  | .queryList b => b.wellFormed .queryList (fun _ => true)
  | .queryScreen b => b.wellFormed .queryScreen (fun _ => true)
  | .queryLevels b => b.wellFormed .queryLevels (fun _ => true)
  | .restart b => b.wellFormed .restart (fun _ => true)
  | .unknownKind k body => (RequestKind.ofCode k).isNone && decide (body.length ≤ 247)
  | .goodFrame _ => true
  | .badLengthOctet _ => true
  | .gapTimeout => true
  | .tholdAsserted _ => true
  | .tholdDeasserted _ => true
  | .frameBoundary => true
  | .frameEnd => true
  | .deferredServiceRetry => true
  | .deferredPass => true
  | .waitingExpiry _ => true
  | .escalation _ => true
  | .vacateExpiry _ _ => true
  | .epochBoundary => true
  | .closingPoint => true
  | .surgeExpiry => true
  | .powerOnReset => true
  | .resetEnd _ _ => true
  | .octetDelivered _ => true

end Sys2Proof
end

