-- ==== Sys2Proof/Certificates/Slice0/Obligations.lean ====
section
/-! DEFINITION. The statements for the provers: one `Obligations.<Name>` for each entry of OBLIGATIONS.json. A statement about a request
that the decoder takes gives the whole next state, so it says what changes and that nothing else does. -/

open Sys2Proof Sys2Proof.Machine

/-! ## Commands, requests and frames -/

/-- A step with commands waiting is the front command's `exec` on the state with the rest of the queue (log 1). -/
def Obligations.StepTakesTheFrontCommand : Prop :=
  ∀ (s : State) (c : Instr) (rest : List Instr), s.pending = c :: rest → step s = exec c { s with pending := rest }

/-- The model's choice (log 2, log 3): with no command waiting, a part in reset stands still, and any other part takes one of its
options: an event that is due or may be taken now, or one millisecond when none is due. Answers to a room-appeared signal come before
every other event, and a frame boundary before every other but those (log 8, log 10). Only the count of free choices may change
beside. A millisecond moves local time on by one, modulo 2^32 (R146), with the gap timer and the frame in transmission (log 9), and
changes nothing else. Then, event by event, what is due: the answers (R76, R154), the boundary (R166), the timers (R156), the sweep's
expiries at the bound of their lateness (R153), the decoder's taking (R181), the gap timeout (R176) and the end of a frame (R172; log 9);
and what may be taken: an expiry within its lateness, and the end of a frame within this millisecond. -/
def Obligations.IdlePartGoesOnByItself : Prop :=
  ∀ s : State,
    (s.pending = [] →
      (s.inReset = true → step s = .next s) ∧
      (s.inReset = false →
        (∃ o ∈ s.idleOptions, step s = s.idleTake o ∨ step s = ({ s with choices := s.choices + 1 } : State).idleTake o) ∧
        (none ∈ s.idleOptions ↔ s.dueEvents = []) ∧
        (s.signalEvents ≠ [] → s.idleOptions = s.signalEvents.map some) ∧
        (s.signalEvents = [] → s.boundaryEvents ≠ [] → s.idleOptions = [some .frameBoundary]) ∧
        (s.signalEvents = [] → s.boundaryEvents = [] → ∀ c, some c ∈ s.idleOptions ↔ c ∈ s.dueEvents ∨ c ∈ s.freeEvents))) ∧
    (∀ c, s.idleTake (some c) = exec c s) ∧
    (∃ t : State, s.idleTake none = .next t ∧ t.localTime.toNat = (s.localTime.toNat + 1) % 4294967296 ∧
      t = { s with
        localTime := t.localTime
        link := { s.link with
          gapTicks := if s.link.receiver = .hunt then 0 else s.link.gapTicks + 1
          sending := match s.link.sending with
            | some d => some { d with elapsed := d.elapsed + 1 }
            | none => none } }) ∧
    (let waits := fun (c : Instr) (p : Waiting → Prop) =>
      ∃ e ∈ s.emergency ++ s.priority ++ s.general, p e ∧ c = .waitingExpiry e.tag
    let vacates := fun (c : Instr) (p : Vacate → Prop) => ∃ t n d v, s.slot t n = .vacating d v ∧ p v ∧ c = .vacateExpiry t n
    let sweeps := fun (c : Instr) (p : Int → Prop) =>
      waits c (fun e => e.watch = .watched ∧ p (signedDiff s.localTime e.deadline)) ∨
      (∃ e ∈ s.emergency, ∃ point, e.escalationPoint = some point ∧ p (signedDiff s.localTime point) ∧ c = .escalation e.tag) ∨
      vacates c (fun v => v.watch = .watched ∧ p (signedDiff s.localTime v.deadline))
    let answers := fun c : Instr =>
      (s.retrySignal = true ∧ c = .deferredServiceRetry) ∨
      (s.passSignal = true ∧ s.retrySignal = false ∧ c = .deferredPass) ∨
      waits c (fun e => e.watch = .signalled) ∨ vacates c (fun v => v.watch = .signalled)
    let boundary := s.link.sending = none ∧ s.link.thold = false ∧
      ¬(s.link.actionLane = [] ∧ s.link.replyQueue = [] ∧ s.link.statusLane = [])
    let bitsPerSecond : Nat := match s.link.rate with
      | .r460800 => 460800
      | .r921600 => 921600
      | .r1843200 => 1843200
      | .r3686400 => 3686400
    let sentWithin := fun (d : Sending) (ms : Nat) => 10 * d.octets.length * 1000 ≤ ms * bitsPerSecond
    (∀ c, c ∈ s.signalEvents ↔ answers c) ∧
    (s.boundaryEvents ≠ [] ↔ boundary) ∧
    (∀ c, c ∈ s.dueEvents ↔ answers c ∨ (boundary ∧ c = .frameBoundary) ∨
      (0 ≤ signedDiff s.localTime s.governor.nextBoundary ∧ c = .epochBoundary) ∨
      (∃ w, s.governor.surge = some w ∧
        (w.noticeDue = true ∧ 0 ≤ signedDiff s.localTime (w.close - 10000) ∧ c = .closingPoint ∨
          0 ≤ signedDiff s.localTime w.close ∧ c = .surgeExpiry)) ∨
      sweeps c (fun late => 10 ≤ late) ∨
      (∃ f rest, s.link.requestQueue = f :: rest ∧ s.link.replyQueue.length < 8 ∧ c = commandOfFrame f) ∨
      (∃ d, s.link.sending = some d ∧ sentWithin d d.elapsed ∧ c = .frameEnd) ∨
      (s.link.receiver ≠ .hunt ∧ 1 ≤ s.link.gapTicks ∧ c = .gapTimeout)) ∧
    (∀ c, c ∈ s.freeEvents ↔ sweeps c (fun late => 0 ≤ late ∧ late < 10) ∨
      ∃ d, s.link.sending = some d ∧ ¬sentWithin d d.elapsed ∧ sentWithin d (d.elapsed + 1) ∧ c = .frameEnd))

/-- No condition stops the part: every command answers a next state and leaves the model's own queue and count alone. Only the two
ends of a reset set local time (R146) or change a part held in reset (R198, item 1; log 5). -/
def Obligations.CommandsAnswerNext : Prop :=
  ∀ (s : State) (i : Instr), ∃ t, exec i s = .next t ∧ t.pending = s.pending ∧ t.choices = s.choices ∧
    (i ≠ .powerOnReset → (∀ b1 b0, i ≠ .resetEnd b1 b0) →
      t.localTime = s.localTime ∧ t.inReset = s.inReset ∧ (s.inReset = true → t = s))

/-- Each request taken leaves the request queue and receives one reply, at the tail of the reply queue, of the request's kind with
its high bit set or of kind 0xFF; a request answered REJECT has no other effect. RHOLD then stands asserted when 6 or more requests
are left (R180). -/
def Obligations.TakenRequestReceivesOneReply : Prop :=
  ∀ (s : State) (i : Instr) (f : Frame), WellFormed i = true → frameOf i = some f → s.TakesFrame f →
    ∃ t r, exec i s = .next t ∧ t.link.requestQueue = s.link.requestQueue.tail ∧
      t.link.replyQueue = s.link.replyQueue ++ [r] ∧
      r.kind = (if (RequestKind.ofCode f.kind).isSome then f.kind ||| 0x80 else 0xFF) ∧
      (∀ about code field tag, r = .reject about code field tag → t = s.afterTaking.pushReply r) ∧
      (t.rhold = true ↔ 7 ≤ s.link.requestQueue.length)

/-- The model's choice (log 4): a request command whose frame is not the head of the queue stands for the frame's arrival. It is taken
at that instant when the queue is empty and a reply has room, as if it had joined first; otherwise it joins the queue, or is
discarded with OVERRUN raised when 8 frames are held. RHOLD then stands asserted when the queue holds 6 or more (R180). -/
def Obligations.RequestNotAtTheHeadArrives : Prop :=
  ∀ (s : State) (i : Instr) (f : Frame), frameOf i = some f → s.inReset = false →
    (s.TakesOnArrival →
      exec i s = exec i { s with link := { s.link with noiseRun := 0, requestQueue := [f] } }) ∧
    (¬s.TakesOnArrival → ¬s.TakesFrame f →
      ∃ t, exec i s = .next t ∧
        t = (if s.link.requestQueue.length < 8 then
          { s with link := { s.link with noiseRun := 0, requestQueue := s.link.requestQueue ++ [f] } }
        else { s with link := { s.link with
          noiseRun := 0
          overrunCount := if s.link.overrunCount < 65535 then s.link.overrunCount + 1 else s.link.overrunCount } }) ∧
        (t.rhold = true ↔ 5 ≤ s.link.requestQueue.length))

/-- The layouts of section 10.6, octet by octet: the kind octet of each request, the lengths that its body may have, and its body, a
field of more than one octet high octet first (R173). A body of wrong length stands as it came, and only a request has a frame. The
decoder agrees with these layouts: the frame of every request command that a link can carry decodes to it. -/
def Obligations.RequestFramesDecodeBack : Prop :=
  let code : RequestKind → Octet := fun k =>
    match k with
    | .admitCall => 0x01
    | .release => 0x02
    | .cancel => 0x03
    | .sectorSet => 0x08
    | .sectorDrain => 0x09
    | .sectorResume => 0x0A
    | .sectorDisable => 0x0B
    | .screenSet => 0x10
    | .screenHold => 0x11
    | .screenFree => 0x12
    | .levelSet => 0x18
    | .timerSet => 0x19
    | .surgeOpen => 0x20
    | .surgeExtend => 0x21
    | .surgeClose => 0x22
    | .guardLock => 0x28
    | .audit => 0x29
    | .queryStatus => 0x30
    | .querySector => 0x31
    | .querySlots => 0x32
    | .queryList => 0x33
    | .queryScreen => 0x34
    | .queryLevels => 0x35
    | .restart => 0x3F
  let length : RequestKind → List Nat := fun k =>
    match k with
    | .admitCall => [13]
    | .release => [4]
    | .cancel => [4]
    | .sectorSet => [10]
    | .sectorDrain => [1]
    | .sectorResume => [1]
    | .sectorDisable => [1]
    | .screenSet => [12]
    | .screenHold => [1]
    | .screenFree => [0]
    | .levelSet => [9]
    | .timerSet => [13]
    | .surgeOpen => [3]
    | .surgeExtend => [2]
    | .surgeClose => [0]
    | .guardLock => [0]
    | .audit => [7, 12, 17, 22, 27, 32, 37, 42, 47, 52, 57, 62]
    | .queryStatus => [0]
    | .querySector => [1]
    | .querySlots => [2]
    | .queryList => [2]
    | .queryScreen => [1]
    | .queryLevels => [0]
    | .restart => [0]
  let o1 := fun n : Nat => (BitVec.ofNat 8 n : Octet)
  let o2 := fun v : BitVec 16 => [o1 (v.toNat / 256), o1 v.toNat]
  let o3 := fun v : BitVec 24 => [o1 (v.toNat / 65536), o1 (v.toNat / 256), o1 v.toNat]
  let o4 := fun v : BitVec 32 => [o1 (v.toNat / 16777216), o1 (v.toNat / 65536), o1 (v.toNat / 256), o1 v.toNat]
  let frame : {α : Type} → Octet → Body α → (α → List Octet) → Option Frame := fun kind b layout =>
    match b with
    | .ok fields => some ⟨kind, layout fields⟩
    | .badLength octets => some ⟨kind, octets⟩
  (∀ (o : Octet) (k : RequestKind), RequestKind.ofCode o = some k ↔ o = code k) ∧
  (∀ (k : RequestKind) (body : List Octet), k.bodyFits body = true ↔
    body.length ∈ length k ∧ (k = .audit → ∃ p, body[1]? = some (o1 p) ∧ p ≤ 12 ∧ body.length = 2 + 5 * p)) ∧
  (∀ i : Instr, frameOf i = match i with
    | .admitCall b => frame 0x01 b (fun f => o4 f.tag ++ [f.sector] ++ o4 f.key ++ o2 f.service ++ [f.accessClass, f.cause])
    | .release b => frame 0x02 b o4
    | .cancel b => frame 0x03 b o4
    | .sectorSet b => frame 0x08 b (fun f =>
        [f.sector, f.capacity, f.generalGuard, f.priorityGuard, f.neighbourCount, f.neighbour1, f.neighbour2, f.neighbour3,
          f.weight, f.depth])
    | .sectorDrain b => frame 0x09 b (fun sector => [sector])
    | .sectorResume b => frame 0x0A b (fun sector => [sector])
    | .sectorDisable b => frame 0x0B b (fun sector => [sector])
    | .screenSet b => frame 0x10 b (fun f =>
        [f.index, f.enabled] ++ o3 f.matchValue ++ o3 f.mask ++ [f.action, f.cls, f.preemptible, f.reason])
    | .screenHold b => frame 0x11 b (fun index => [index])
    | .screenFree b => frame 0x12 b (fun _ => [])
    | .levelSet b => frame 0x18 b (fun f =>
        [f.level] ++ o2 f.threshold ++ [f.refill, f.barPct] ++ o2 f.barTime ++ o2 f.base)
    | .timerSet b => frame 0x19 b (fun f =>
        [f.generalWait, f.priorityWait, f.emergencyWait, f.escalationTime] ++ o2 f.vacateTimeout ++ o2 f.repeatWindow ++
          o2 f.jitter ++ [f.policy] ++ o2 f.epochPeriod)
    | .surgeOpen b => frame 0x20 b (fun f => o2 f.duration ++ [f.floor])
    | .surgeExtend b => frame 0x21 b o2
    | .surgeClose b => frame 0x22 b (fun _ => [])
    | .guardLock b => frame 0x28 b (fun _ => [])
    | .audit b => frame 0x29 b (fun f =>
        [f.sector, o1 f.pairs.length] ++ f.pairs.flatMap (fun p => [p.slot] ++ o4 p.tag))
    | .queryStatus b => frame 0x30 b (fun _ => [])
    | .querySector b => frame 0x31 b (fun sector => [sector])
    | .querySlots b => frame 0x32 b (fun f => [f.sector, f.firstSlot])
    | .queryList b => frame 0x33 b (fun f => [f.cls, f.start])
    | .queryScreen b => frame 0x34 b (fun index => [index])
    | .queryLevels b => frame 0x35 b (fun _ => [])
    | .restart b => frame 0x3F b (fun _ => [])
    | .unknownKind kind body => some ⟨kind, body⟩
    | _ => none) ∧
  ∀ (i : Instr) (f : Frame), WellFormed i = true → frameOf i = some f → commandOfFrame f = i

/-- Every frame that a link can carry stands for one well-formed command, and is that command's frame. -/
def Obligations.EveryFrameStandsForOneCommand : Prop :=
  ∀ f : Frame, f.body.length ≤ 247 → WellFormed (commandOfFrame f) = true ∧ frameOf (commandOfFrame f) = some f

/-- R174: the check sequence, octet by octet; the check value of the nine octets; and the register left at 0 by the check octets of
a good frame. -/
def Obligations.CheckSequence : Prop :=
  let stepped : BitVec 16 → BitVec 16 := fun r => if r.getLsbD 15 then (r <<< 1) ^^^ 0x1021 else r <<< 1
  crc [] = 0xFFFF ∧
  (∀ (l : List Octet) (o : Octet),
    crc (l ++ [o]) = Nat.iterate stepped 8 (crc l ^^^ ((o.setWidth 16) <<< 8))) ∧
  crc [0x31, 0x32, 0x33, 0x34, 0x35, 0x36, 0x37, 0x38, 0x39] = 0x29B1 ∧
  (∀ l : List Octet, crc (l ++ octets2 (crc l)) = 0)

/-- A frame as the part builds it is the start octet, the length, the kind, the body and the check sequence, high octet first (R173);
its octets, taken by a receiver in HUNT one after the other, bring the frame to the request queue. An octet is sent as ten bit times, a
start bit at low level, eight data bits with the least significant first and a stop bit at high level. Whatever the receiver does, the
transmit line carries the octets of the frame in transmission so, one after the other, and stands high else (R170, R172). A character
whose bits are sampled at the levels it is sent with delivers its octet to the receiver in any state (R171; log 12). -/
def Obligations.ReceiverTakesWholeFrames : Prop :=
  (∀ (kind : Octet) (body : List Octet),
    let content := (BitVec.ofNat 8 (body.length + 1) : Octet) :: kind :: body
    wireFrame kind body = 0x5A :: content ++ [(crc content).extractLsb' 8 8, (crc content).extractLsb' 0 8]) ∧
  (∀ (s : State) (kind : Octet) (body : List Octet), s.link.receiver = .hunt → body.length ≤ 247 →
    (wireFrame kind body).length = body.length + 5 ∧
    (wireFrame kind body).foldl State.receiveOctet s =
      ({ s with link := { s.link with gapTicks := 0 } } : State).arrive ⟨kind, body⟩) ∧
  (∀ o : Octet, (sentCharacter o).length = 10 ∧ (sentCharacter o)[0]? = some false ∧ (sentCharacter o)[9]? = some true ∧
    ∀ i < 8, (sentCharacter o)[i + 1]? = some (o.getLsbD i)) ∧
  (∀ (s : State) (d : Sending), s.link.sending = some d →
    (∀ i j o, d.octets[i]? = some o → j < 10 → some (s.txdLevel (10 * i + j)) = (sentCharacter o)[j]?) ∧
    ∀ bit, 10 * d.octets.length ≤ bit → s.txdLevel bit = true) ∧
  (∀ s : State, s.link.sending = none → ∀ bit, s.txdLevel bit = true) ∧
  ∀ (s : State) (o : Octet) (c : CharSamples), s.inReset = false → s.link.lineLow = false →
    (∀ (i : Nat) (x : CentreSamples) (b : Bool),
      [c.start, c.d0, c.d1, c.d2, c.d3, c.d4, c.d5, c.d6, c.d7, c.stop][i]? = some x → (sentCharacter o)[i]? = some b →
      [x.s7, x.s8, x.s9] = [b, b, b]) →
    exec (.octetDelivered c) s = .next (s.receiveOctet o)

/-! ## ADMIT -/

/-- R38: the request checks of an ADMIT in their order, the first that fails deciding the reply; nothing else happens. -/
def Obligations.AdmitRequestChecks : Prop :=
  ∀ (s : State) (f : AdmitFields), s.Takes (.admitCall (.ok f)) →
    let rejected := fun (code : RejectCode) (field : Octet) =>
      exec (.admitCall (.ok f)) s = .next (s.afterTaking.pushReply (.reject (some .admitCall) code field f.tag))
    (f.tag = 0 → rejected .badField 1) ∧
    (f.tag ≠ 0 → 15 < f.sector.toNat → rejected .badField 2) ∧
    (f.tag ≠ 0 → f.sector.toNat ≤ 15 → 15 < f.accessClass.toNat → rejected .badField 5) ∧
    (f.tag ≠ 0 → f.sector.toNat ≤ 15 → f.accessClass.toNat ≤ 15 → 1 < f.cause.toNat → rejected .badField 6) ∧
    (f.tag ≠ 0 → f.sector.toNat ≤ 15 → f.accessClass.toNat ≤ 15 → f.cause.toNat ≤ 1 →
      ((s.sector (toSector f.sector)).state = .disabled → rejected .sectorDisabled 0) ∧
      ((s.sector (toSector f.sector)).state ≠ .disabled → s.Holds f.tag → rejected .duplicateTag 0))

/-- R22, R24, R25: the screening key, service code x 32 + access class x 2 + cause flag, has its parts at positions 20..5, 4..1 and 0.
The enabled and matching entry of the highest index wins, the held entry standing by its held copy; its hit count is
incremented and its action fields give the outcome. With no such entry the cause flag classifies the attempt and no hit count
changes. -/
def Obligations.ScanOfTheScreeningTable : Prop :=
  ∀ (s : State) (f : AdmitFields), f.accessClass.toNat ≤ 15 → f.cause.toNat ≤ 1 →
    let key := screenKey f
    let version := fun i : ScreenIndex => (s.heldCopy i).getD (s.screenEntry i).content
    let fits := fun i : ScreenIndex =>
      (version i).enabled = true ∧
        ∀ n < 21, (version i).mask.getLsbD n = true → key.getLsbD n = (version i).matchValue.getLsbD n
    (key.toNat = f.service.toNat * 32 + f.accessClass.toNat * 2 + f.cause.toNat ∧ key.extractLsb' 5 16 = f.service ∧
      key.extractLsb' 1 4 = f.accessClass.extractLsb' 0 4 ∧ key.extractLsb' 0 1 = f.cause.extractLsb' 0 1) ∧
    (∀ i, fits i → (∀ j, i < j → ¬fits j) →
      s.classOf f = (match (version i).action with
        | .assign cls pre => .attempt cls (decide (cls ≠ .emergency) && pre)
        | .bar reason => .bar i reason) ∧
      s.classified f = s.afterTaking.setScreenEntry i
        { s.screenEntry i with
          hits := if (s.screenEntry i).hits < 65535 then (s.screenEntry i).hits + 1 else (s.screenEntry i).hits }) ∧
    ((∀ i, ¬fits i) →
      s.classOf f = (if f.cause = 1 then .attempt .emergency false else .attempt .general true) ∧
      s.classified f = s.afterTaking)

/-- R27, R49, R52: the refusals made before any grant test. A BAR winner refuses whatever the sector's state; PRIORITY and GENERAL
attempts naming a DRAINING or DRAINED sector are refused DRAINING; a GENERAL attempt that finds no token in its OPEN sector is refused
THROTTLED. Each carries a hint computed before the refusal is recorded, and does nothing else. -/
def Obligations.AdmitRefusedBeforeTheGrantTest : Prop :=
  ∀ (s : State) (f : AdmitFields), s.Takes (.admitCall (.ok f)) → s.PassesChecks f →
    let t := toSector f.sector
    let refused := fun reason : RefusalReason =>
      exec (.admitCall (.ok f)) s =
        .next (((s.classified f).recordRefusal f.key).pushReply (.refused f.tag reason (s.retryHint f.key t)))
    (∀ i reason, s.classOf f = .bar i reason → refused (.barred i reason)) ∧
    (∀ cls pre, s.classOf f = .attempt cls pre → cls ≠ .emergency →
      (s.sector t).state = .draining ∨ (s.sector t).state = .drained → refused (.draining cls)) ∧
    (∀ pre, s.classOf f = .attempt .general pre → (s.sector t).state = .opened → (s.sector t).tokens = 0 →
      refused .throttled)

/-- R50, R51: a PRIORITY attempt is granted directly when its guard test passes and no emergency or priority entry stands before it;
otherwise it joins a list of fewer than 48 entries, and is refused LIST-FULL by a full one. -/
def Obligations.PriorityDecision : Prop :=
  (∀ (s : State) (f : AdmitFields) (pre : Bool) (n : SlotId), s.Takes (.admitCall (.ok f)) → s.PassesChecks f →
    s.classOf f = .attempt .priority pre →
    let t := toSector f.sector
    (s.sector t).state = .opened →
    min (s.sector t).priorityGuard (s.sector t).capacity < s.freeCount t →
    (∀ e ∈ s.emergency, ¬s.EligibleFor e t) → (∀ e ∈ s.priority, e.sector ≠ t) → s.LowestFree t n →
    exec (.admitCall (.ok f)) s =
      .next (((s.classified f).setSlot t n
        (.active { tag := f.tag, cls := .priority, preemptible := pre, admitTime := s.localTime, origin := t })).pushReply
        (.granted f.tag (t, n) .priority pre))) ∧
  (∀ (s : State) (f : AdmitFields) (pre : Bool), s.Takes (.admitCall (.ok f)) → s.PassesChecks f →
    s.classOf f = .attempt .priority pre →
    let t := toSector f.sector
    (s.sector t).state = .opened →
    (s.freeCount t ≤ min (s.sector t).priorityGuard (s.sector t).capacity ∨ (∃ e ∈ s.emergency, s.EligibleFor e t) ∨
      ∃ e ∈ s.priority, e.sector = t) →
    (s.priority.length < 48 →
      exec (.admitCall (.ok f)) s =
        .next (((s.classified f).setWaiting .priority (s.priority ++
          [{ tag := f.tag, cls := .priority, sector := t, key := f.key, preemptible := pre, arrival := s.localTime,
             deadline := after s.localTime (s.settings.priorityWait * 1000), watch := .watched, merged := 0,
             escalated := false, escalationPoint := none, earmark := none }])).pushReply
          (.queued f.tag .priority (s.priority.length + 1) false))) ∧
    (48 ≤ s.priority.length →
      exec (.admitCall (.ok f)) s =
        .next (((s.classified f).recordRefusal f.key).pushReply
          (.refused f.tag (.listFull .priority) (s.retryHint f.key t)))))

/-- R53, R54: a GENERAL attempt that finds a token spends one and is granted directly when its guard test passes and no waiting
entry stands for the sector. -/
def Obligations.GeneralDirectGrant : Prop :=
  ∀ (s : State) (f : AdmitFields) (pre : Bool) (n : SlotId), s.Takes (.admitCall (.ok f)) → s.PassesChecks f →
    s.classOf f = .attempt .general pre →
    let t := toSector f.sector
    let r := s.sector t
    r.state = .opened → 0 < r.tokens → min r.generalGuard r.capacity < s.freeCount t →
    (∀ e ∈ s.emergency, ¬s.EligibleFor e t) → (∀ e ∈ s.priority ++ s.general, e.sector ≠ t) → s.LowestFree t n →
    exec (.admitCall (.ok f)) s =
      .next ((((s.classified f).setSector t { r with tokens := r.tokens - 1 }).setSlot t n
        (.active { tag := f.tag, cls := .general, preemptible := pre, admitTime := s.localTime, origin := t })).pushReply
        (.granted f.tag (t, n) .general pre))

/-- R55, R56: a metered GENERAL attempt that is not granted directly joins a list of fewer than 96 entries. A full list refuses it
under PROTECT, and under DISPLACE without an action place; with one, the oldest entry gives way and is reported EXPIRED. The token is
spent in every case. -/
def Obligations.GeneralAttemptWaits : Prop :=
  ∀ (s : State) (f : AdmitFields) (pre : Bool), s.Takes (.admitCall (.ok f)) → s.PassesChecks f →
    s.classOf f = .attempt .general pre →
    let t := toSector f.sector
    let r := s.sector t
    let metered := (s.classified f).setSector t { r with tokens := r.tokens - 1 }
    let entry : Waiting :=
      { tag := f.tag, cls := .general, sector := t, key := f.key, preemptible := pre, arrival := s.localTime,
        deadline := after s.localTime (s.settings.generalWait * 1000), watch := .watched, merged := 0, escalated := false,
        escalationPoint := none, earmark := none }
    let refused := exec (.admitCall (.ok f)) s =
      .next ((metered.recordRefusal f.key).pushReply (.refused f.tag (.listFull .general) (s.retryHint f.key t)))
    r.state = .opened → 0 < r.tokens →
    (s.freeCount t ≤ min r.generalGuard r.capacity ∨ (∃ e ∈ s.emergency, s.EligibleFor e t) ∨
      ∃ e ∈ s.priority ++ s.general, e.sector = t) →
    (s.general.length < 96 →
      exec (.admitCall (.ok f)) s =
        .next ((metered.setWaiting .general (s.general ++ [entry])).pushReply
          (.queued f.tag .general (s.general.length + 1) false))) ∧
    (s.general.length = 96 → s.settings.policy = .protect → refused) ∧
    (s.general.length = 96 → s.settings.policy = .displace → 48 ≤ s.link.actionLane.length → refused) ∧
    (∀ oldest rest, s.general = oldest :: rest → s.general.length = 96 → s.settings.policy = .displace →
      s.link.actionLane.length < 48 →
      exec (.admitCall (.ok f)) s =
        .next (((metered.setWaiting .general (rest ++ [entry])).placeAction
          (.expired oldest.tag .general .displaced (s.localTime - oldest.arrival)
            (s.retryHint oldest.key oldest.sector))).pushReply (.queued f.tag .general 96 false)))

/-- R42: an EMERGENCY attempt whose key an emergency entry carries is merged into it. Only that entry's merged count changes, up to
255, and no tag is taken; the reply names the entry, its new count, its position and whether it holds an earmark. -/
def Obligations.EmergencyMerge : Prop :=
  ∀ (s : State) (f : AdmitFields) (pre : Bool) (older newer : List Waiting) (e : Waiting),
    s.Takes (.admitCall (.ok f)) → s.PassesChecks f → s.RecordsPaired → s.classOf f = .attempt .emergency pre →
    s.emergency = older ++ e :: newer → e.key = f.key → f.key ≠ 0 →
    exec (.admitCall (.ok f)) s =
      .next (((s.classified f).setWaiting .emergency
        (older ++ { e with merged := min (e.merged + 1) 255 } :: newer)).pushReply
        (.merged f.tag e.tag (min (e.merged + 1) 255) (older.length + 1) e.earmark.isSome))

/-- R45, R46: an EMERGENCY attempt that is not merged is granted directly in the first of its own sector and that sector's
neighbours, in list order, that is OPEN, has a FREE slot and has no eligible emergency entry; no guard, token or level is read. -/
def Obligations.EmergencyDirectGrant : Prop :=
  ∀ (s : State) (f : AdmitFields) (pre : Bool) (before later : List SectorId) (u : SectorId) (n : SlotId),
    s.Takes (.admitCall (.ok f)) → s.PassesChecks f → s.classOf f = .attempt .emergency pre →
    (f.key = 0 ∨ ∀ e ∈ s.emergency, e.key ≠ f.key) →
    let passes := fun v : SectorId => (s.sector v).state = .opened ∧ 0 < s.freeCount v ∧ ∀ e ∈ s.emergency, ¬s.EligibleFor e v
    toSector f.sector :: (s.sector (toSector f.sector)).neighbours = before ++ u :: later →
    (∀ v ∈ before, ¬passes v) → passes u → s.LowestFree u n →
    exec (.admitCall (.ok f)) s =
      .next (((s.classified f).setSlot u n
        (.active { tag := f.tag, cls := .emergency, preemptible := false, admitTime := s.localTime,
                   origin := toSector f.sector })).pushReply (.granted f.tag (u, n) .emergency false))

/-- R47, R48: an EMERGENCY attempt that is neither merged nor granted is refused EMERGENCY-FULL by a list of 32 entries, with a hint
of 0, nothing recorded and the count raised; otherwise it joins the list, a victim-search pass runs, and the reply says whether the
new entry holds an earmark at its end. -/
def Obligations.EmergencyAttemptWaits : Prop :=
  ∀ (s : State) (f : AdmitFields) (pre : Bool), s.Takes (.admitCall (.ok f)) → s.PassesChecks f →
    s.classOf f = .attempt .emergency pre → (f.key = 0 ∨ ∀ e ∈ s.emergency, e.key ≠ f.key) →
    (∀ v ∈ toSector f.sector :: (s.sector (toSector f.sector)).neighbours,
      (s.sector v).state ≠ .opened ∨ s.freeCount v = 0 ∨ ∃ e ∈ s.emergency, s.EligibleFor e v) →
    let point := s.settings.escalationTime
    let entry : Waiting :=
      { tag := f.tag, cls := .emergency, sector := toSector f.sector, key := f.key, preemptible := false,
        arrival := s.localTime, deadline := after s.localTime (s.settings.emergencyWait * 1000), watch := .watched,
        merged := 0, escalated := decide (point = 0),
        escalationPoint := if point = 0 then none else some (after s.localTime (point * 1000)), earmark := none }
    let p := ((s.classified f).setWaiting .emergency (s.emergency ++ [entry])).pass
    (32 ≤ s.emergency.length →
      exec (.admitCall (.ok f)) s =
        .next (({ s.classified f with
            emergencyFull := if s.emergencyFull < 65535 then s.emergencyFull + 1 else s.emergencyFull } : State).pushReply
          (.refused f.tag .emergencyFull 0))) ∧
    (s.emergency.length < 32 →
      exec (.admitCall (.ok f)) s =
        .next (p.pushReply (.queued f.tag .emergency (s.emergency.length + 1)
          (p.emergency.any (fun e => decide (e.tag = f.tag) && e.earmark.isSome)))))

/-! ## Retry hints -/

/-- R137, R138, R141, R142: the lookup and the retry hint; and what recording a refusal for a caller key does to the repeat-caller
table, case by case, and that it does nothing else. -/
def Obligations.HintsAndRecording : Prop :=
  (∀ (s : State) (k : CallerKey) (t : SectorId) (count : Nat),
    ((k = 0 ∨ (∀ r ∈ s.repeatTable, r.key ≠ k)) ∧ count = 0 ∨
      (k ≠ 0 ∧ ∃ older r newer, s.repeatTable = older ++ r :: newer ∧ (∀ x ∈ older, x.key ≠ k) ∧ r.key = k ∧
        count = if 0 ≤ signedDiff s.localTime r.last ∧ signedDiff s.localTime r.last < s.settings.repeatWindow * 1000 then
          r.count else 0)) →
    s.retryHint k t =
      min ((s.governor.activeTable.get (s.sector t).level).base * 2 ^ min count 4 + k.toNat % (s.settings.jitter + 1)) 65535) ∧
  (∀ (s : State) (k : CallerKey),
    let kept := fun l : List RepeatEntry => s.recordRefusal k = { s with repeatTable := l }
    (k = 0 → s.recordRefusal k = s) ∧
    (∀ older r newer, k ≠ 0 → s.repeatTable = older ++ r :: newer → r.key = k → (∀ x ∈ older ++ newer, x.key ≠ k) →
      let inWindow := 0 ≤ signedDiff s.localTime r.last ∧ signedDiff s.localTime r.last < s.settings.repeatWindow * 1000
      (inWindow → kept (older ++ newer ++ [{ key := k, count := min (r.count + 1) 4, last := s.localTime }])) ∧
      (¬inWindow → kept (older ++ newer ++ [{ key := k, count := 1, last := s.localTime }]))) ∧
    (k ≠ 0 → (∀ x ∈ s.repeatTable, x.key ≠ k) →
      kept ((if s.repeatTable.length < 128 then s.repeatTable else s.repeatTable.tail) ++
        [{ key := k, count := 1, last := s.localTime }])))

/-! ## Preemption and freed-slot service -/

/-- R90, R91, R92: the search for a victim. It finds the first OPEN candidate sector, in the order of the named sector and its
neighbours, that holds an eligible victim for the entry's stage, and in it the first eligible call by class, age and slot; with no
such sector it finds none. -/
def Obligations.SearchForAVictim : Prop :=
  ∀ (s : State) (e : Waiting),
    let candidates := e.sector :: (s.sector e.sector).neighbours
    let eligible := fun (t : SectorId) (n : SlotId) (c : Call) =>
      s.slot t n = .active c ∧ n.val < (s.sector t).capacity ∧ (s.sector t).state = .opened ∧
        (c.cls = .general ∧ (e.escalated = true ∨ c.preemptible = true) ∨
          c.cls = .priority ∧ e.escalated = true ∧ c.preemptible = true)
    let age := fun c : Call => signedDiff s.localTime c.admitTime
    let precedes := fun (n : SlotId) (c : Call) (m : SlotId) (d : Call) =>
      (c.cls = .general ∧ d.cls = .priority) ∨
        (c.cls = d.cls ∧ (age c < age d ∨ age c = age d ∧ n ≤ m))
    (∀ before t later n c, candidates = before ++ t :: later → (∀ u ∈ before, ∀ m d, ¬eligible u m d) → eligible t n c →
      (∀ m d, eligible t m d → precedes n c m d) → s.searchVictim e = some (t, n, c)) ∧
    ((∀ t ∈ candidates, ∀ n c, ¬eligible t n c) → s.searchVictim e = none)

/-- R93, R97: a victim-search pass, with its mark cleared at its start (R94). The oldest entry that holds no earmark and has a victim
is served first: with an action place free a preemption is started for it and the pass goes on; without one the pass stops there with
the mark set. A pass that finds no such entry ends with the mark clear. -/
def Obligations.PassServesOldestFirst : Prop :=
  ∀ s : State, s.RecordsPaired →
    ((∀ e ∈ s.emergency, e.earmark = none → s.searchVictim e = none) → s.pass = { s with passDeferred := false }) ∧
    (∀ older e newer t n c, s.emergency = older ++ e :: newer →
      (∀ x ∈ older, x.earmark = none → s.searchVictim x = none) → e.earmark = none → s.searchVictim e = some (t, n, c) →
      (48 ≤ s.link.actionLane.length → s.pass = { s with passDeferred := true }) ∧
      (s.link.actionLane.length < 48 →
        s.pass = State.pass (((s.setSlot t n (.vacating c
            { attempt := .first, deadline := after s.localTime s.settings.vacateTimeout, watch := .watched,
              beneficiary := some e.tag })).setWaiting .emergency
            (older ++ { e with earmark := some (t, n) } :: newer)).placeAction (.preempt c.tag (t, n) .first))))

/-- R67 to R71: a walk serves its slots in turn, passing over one that is not FREE or not in an OPEN sector; and freed-slot service of
one FREE slot of an OPEN sector, by its candidate. The oldest eligible emergency entry comes first; then the oldest priority and the
oldest general entry naming the sector, each under its guard. An entry with an earmark has its preemption withdrawn before the grant
and needs two action places; any other needs one. Without them nothing changes but the service-deferred mark, and a walk over several
slots ends there. A report placed in the action lane joins its tail (R157). -/
def Obligations.FreedSlotService : Prop :=
  (∀ (u : State) (a : ActionReport), u.placeAction a = { u with link := { u.link with actionLane := u.link.actionLane ++ [a] } }) ∧
  ((∀ u : State, serveWalk [] u = u) ∧
    (∀ (u : State) (t : SectorId) (n : SlotId), u.slot t n ≠ .free ∨ (u.sector t).state ≠ .opened →
      u.serveSlot t n = ⟨u, false⟩) ∧
    ∀ (u : State) (p : Place) (rest : List Place), serveWalk (p :: rest) u =
      if (u.serveSlot p.1 p.2).deferred then (u.serveSlot p.1 p.2).state
      else serveWalk rest (u.serveSlot p.1 p.2).state) ∧
  ∀ (s : State) (t : SectorId) (n : SlotId), s.RecordsPaired → s.slot t n = .free → (s.sector t).state = .opened →
    let first := fun (c : CallClass) (stands : Waiting → Prop) (older : List Waiting) (e : Waiting) (newer : List Waiting) =>
      s.waiting c = older ++ e :: newer ∧ stands e ∧ ∀ x ∈ older, ¬stands x
    let eligible := fun e : Waiting => s.EligibleFor e t
    let names := fun e : Waiting => e.sector = t
    let priorityPasses := min (s.sector t).priorityGuard (s.sector t).capacity < s.freeCount t
    let generalPasses := min (s.sector t).generalGuard (s.sector t).capacity < s.freeCount t
    let chosen := fun (c : CallClass) (older : List Waiting) (e : Waiting) (newer : List Waiting) =>
      match c with
      | .emergency => first .emergency eligible older e newer
      | .priority => (∀ x ∈ s.emergency, ¬eligible x) ∧ priorityPasses ∧ first .priority names older e newer
      | .general => (∀ x ∈ s.emergency, ¬eligible x) ∧ ¬(priorityPasses ∧ ∃ x ∈ s.priority, names x) ∧ generalPasses ∧
          first .general names older e newer
    (∀ c older e newer, chosen c older e newer →
      let call : Call :=
        { tag := e.tag, cls := c, preemptible := e.preemptible, admitTime := s.localTime, origin := e.sector }
      let granted := fun u : State =>
        ((u.setSlot t n (.active call)).setWaiting c (older ++ newer)).placeAction
          (.grant e.tag (t, n) c (s.localTime - e.arrival))
      (e.earmark = none →
        (s.link.actionLane.length < 48 → s.serveSlot t n = ⟨granted s, false⟩) ∧
        (48 ≤ s.link.actionLane.length → s.serveSlot t n = ⟨{ s with serviceDeferred := true }, true⟩)) ∧
      (∀ u m d v, e.earmark = some (u, m) → s.slot u m = .vacating d v →
        (s.link.actionLane.length < 47 →
          s.serveSlot t n = ⟨granted ((s.setSlot u m (.active d)).placeAction (.withdraw d.tag (u, m))), false⟩) ∧
        (47 ≤ s.link.actionLane.length → s.serveSlot t n = ⟨{ s with serviceDeferred := true }, true⟩))) ∧
    ((∀ c older e newer, ¬chosen c older e newer) → s.serveSlot t n = ⟨s, false⟩)

/-- R76, R96: the two answers to a room-appeared signal. The retry clears its mark and serves every FREE slot of every OPEN sector in
order; a retry that ends with the mark clear leaves no FREE slot of an OPEN sector with a candidate. The pass is run after the
retry. That a signal stands in two fields until it is answered is a deduction of the model (log 8). -/
def Obligations.DeferredServiceRetryAndPass : Prop :=
  ∀ s : State, s.inReset = false →
    (s.retrySignal = true → s.serviceDeferred = true →
      ∃ r, exec .deferredServiceRetry s = .next r ∧
        r = serveWalk allPlaces { s with serviceDeferred := false, retrySignal := false } ∧
        (r.serviceDeferred = false → ∀ t n, (r.sector t).state = .opened → r.slot t n = .free → r.serveSlot t n = ⟨r, false⟩)) ∧
    (s.retrySignal = false → s.passSignal = true → s.passDeferred = true →
      exec .deferredPass s = .next ({ s with passSignal := false } : State).pass)

/-! ## RELEASE and CANCEL -/

/-- R78, R79, R80 (with R8, R17): RELEASE of tag 0, of a waiting entry's tag or of a tag not held is rejected. RELEASE of an ACTIVE or
STUCK slot frees or closes it; in an OPEN sector the freed slot is served, in a DRAINING one the completion test is made. -/
def Obligations.ReleaseOfActiveOrStuckSlot : Prop :=
  ∀ (s : State) (tag : Tag), s.Takes (.release (.ok tag)) → s.RecordsPaired → s.SlotsLawful →
    let rejected := fun (code : RejectCode) (field : Octet) =>
      exec (.release (.ok tag)) s = .next (s.afterTaking.pushReply (.reject (some .release) code field tag))
    (tag = 0 → rejected .badField 1) ∧
    (tag ∈ s.waitingTags → rejected .notActive 0) ∧
    (tag ≠ 0 → ¬s.Holds tag → rejected .unknownTag 0) ∧
    (∀ t n c, s.slot t n = .active c ∨ s.slot t n = .stuck c → c.tag = tag →
      let r := s.sector t
      let emptied := s.afterTaking.setSlot t n (if n.val < r.capacity then .free else .closed)
      let former : SlotCode := match s.slot t n with
        | .stuck _ => .stuck
        | _ => .active
      let answered := fun u : State => exec (.release (.ok tag)) s = .next (u.pushReply (.released tag (t, n) former))
      (r.state = .opened ∧ (n.val < r.capacity → answered (emptied.serveSlot t n).state) ∧
        (r.capacity ≤ n.val → answered emptied)) ∨
      (r.state = .draining ∧ (1 < s.occupancy t → answered emptied) ∧
        (s.occupancy t = 1 → answered ((emptied.setSector t { r with state := .drained }).offerStatus (.drained t)))))

/-- R99, R100, R101: RELEASE of a VACATING slot. With a beneficiary and an action place the slot is handed over; without a place the
earmark is dropped and the slot is freed and served; without a beneficiary it is released as an ACTIVE slot is. -/
def Obligations.ReleaseOfVacatingSlot : Prop :=
  ∀ (s : State) (t : SectorId) (n : SlotId) (c : Call) (v : Vacate),
    s.Takes (.release (.ok c.tag)) → s.RecordsPaired → s.SlotsLawful → s.slot t n = .vacating c v →
    let r := s.sector t
    let former : SlotCode := match v.attempt with
      | .first => .vacating1
      | .second => .vacating2
    let answered := fun u : State => exec (.release (.ok c.tag)) s = .next (u.pushReply (.released c.tag (t, n) former))
    (∀ older e newer, s.emergency = older ++ e :: newer → v.beneficiary = some e.tag →
      (s.link.actionLane.length < 48 →
        answered (((s.afterTaking.setSlot t n
          (.active { tag := e.tag, cls := .emergency, preemptible := false, admitTime := s.localTime,
                     origin := e.sector })).setWaiting .emergency (older ++ newer)).placeAction
          (.grant e.tag (t, n) .emergency (s.localTime - e.arrival)))) ∧
      (48 ≤ s.link.actionLane.length →
        answered (((s.afterTaking.setSlot t n .free).setWaiting .emergency
          (older ++ { e with earmark := none } :: newer)).serveSlot t n).state)) ∧
    (v.beneficiary = none →
      let emptied := s.afterTaking.setSlot t n (if n.val < r.capacity then .free else .closed)
      (r.state = .opened ∧ (n.val < r.capacity → answered (emptied.serveSlot t n).state) ∧
        (r.capacity ≤ n.val → answered emptied)) ∨
      (r.state = .draining ∧ (1 < s.occupancy t → answered emptied) ∧
        (s.occupancy t = 1 → answered ((emptied.setSector t { r with state := .drained }).offerStatus (.drained t)))))

/-- R82, R83: CANCEL removes the waiting entry with the tag, in whichever list it stands, and drops its earmark while the slot keeps
vacating; any other tag is rejected. -/
def Obligations.CancelOfWaitingEntry : Prop :=
  ∀ (s : State) (tag : Tag), s.Takes (.cancel (.ok tag)) → s.RecordsPaired →
    let rejected := fun (code : RejectCode) (field : Octet) =>
      exec (.cancel (.ok tag)) s = .next (s.afterTaking.pushReply (.reject (some .cancel) code field tag))
    (tag = 0 → rejected .badField 1) ∧
    ((∃ t n c, (s.slot t n).call? = some c ∧ c.tag = tag) → rejected .notWaiting 0) ∧
    (tag ≠ 0 → ¬s.Holds tag → rejected .unknownTag 0) ∧
    (∀ c older e newer, s.waiting c = older ++ e :: newer → e.tag = tag →
      let removed := s.afterTaking.setWaiting c (older ++ newer)
      let answered := fun u : State => exec (.cancel (.ok tag)) s = .next (u.pushReply (.cancelled tag c e.earmark.isSome))
      (e.earmark = none → answered removed) ∧
      (∀ t n d v, e.earmark = some (t, n) → s.slot t n = .vacating d v →
        answered (removed.setSlot t n (.vacating d { v with beneficiary := none }))))

/-! ## The sector requests -/

/-- R9, R10: the checks of a SECTOR-SET in their order, the first that fails deciding the reply, with no other effect. Of two equal
neighbours the later one is named (log 13). -/
def Obligations.SectorSetChecks : Prop :=
  ∀ (s : State) (f : SectorSetFields), s.Takes (.sectorSet (.ok f)) →
    let r := s.sector (toSector f.sector)
    let k := f.neighbourCount.toNat
    let failed : Option (RejectCode × Octet) :=
      if 15 < f.sector.toNat then some (.badField, 1)
      else if 24 < f.capacity.toNat then some (.badField, 2)
      else if 24 < f.generalGuard.toNat then some (.badField, 3)
      else if 24 < f.priorityGuard.toNat then some (.badField, 4)
      else if 3 < k then some (.badField, 5)
      else if 1 ≤ k ∧ 15 < f.neighbour1.toNat then some (.badField, 6)
      else if 2 ≤ k ∧ 15 < f.neighbour2.toNat then some (.badField, 7)
      else if 3 ≤ k ∧ 15 < f.neighbour3.toNat then some (.badField, 8)
      else if f.weight.toNat = 0 ∨ 16 < f.weight.toNat then some (.badField, 9)
      else if f.depth.toNat = 0 then some (.badField, 10)
      else if f.generalGuard.toNat < f.priorityGuard.toNat then some (.badField, 4)
      else if 1 ≤ k ∧ f.neighbour1 = f.sector then some (.badField, 6)
      else if 2 ≤ k ∧ (f.neighbour2 = f.sector ∨ f.neighbour2 = f.neighbour1) then some (.badField, 7)
      else if 3 ≤ k ∧ (f.neighbour3 = f.sector ∨ f.neighbour3 = f.neighbour1 ∨ f.neighbour3 = f.neighbour2) then
        some (.badField, 8)
      else if s.guardLock ∧ (f.generalGuard.toNat < r.generalGuard ∨ f.priorityGuard.toNat < r.priorityGuard) then
        some (.locked, 0)
      else none
    (failed = none ↔ s.AcceptsSectorSet f) ∧
    (∀ code field, failed = some (code, field) →
      exec (.sectorSet (.ok f)) s = .next (s.afterTaking.pushReply (.reject (some .sectorSet) code field 0)))

/-- R11 to R15: an accepted SECTOR-SET writes its fields, enables a DISABLED sector, opens and closes slots by the new capacity, drops
the earmarks above it, runs the service walk, and then a pass when an earmark was dropped. -/
def Obligations.SectorSetTakesEffect : Prop :=
  ∀ (s : State) (f : SectorSetFields), s.Takes (.sectorSet (.ok f)) → s.AcceptsSectorSet f → s.RecordsPaired → s.SlotsLawful →
    let t := toSector f.sector
    let r := s.sector t
    let c := f.capacity.toNat
    let d := f.depth.toNat
    let new := (listedNeighbours f).map toSector
    let level := match s.governor.surge with
      | some w => w.floor
      | none => 0
    let row := s.governor.activeTable.get level
    let common := { r with capacity := c, generalGuard := f.generalGuard.toNat, priorityGuard := f.priorityGuard.toNat,
                           neighbours := new, weight := f.weight.toNat, depth := d }
    let walk := placesOf t ++ (new.filter (fun u => decide (u ∉ r.neighbours))).flatMap placesOf
    ∃ m : State,
      (if r.state = .disabled then
        m.sector t = { common with state := .opened, tokens := d, pressure := 0, votes := ⟨.hold, .hold, .hold⟩,
                                   level := level } ∧
        m.link = (s.afterTaking.offerStatus (.level t level row.barPct row.barTime)).link
      else m.sector t = { common with tokens := min r.tokens d } ∧ m.link = s.afterTaking.link) ∧
      m = { s with link := m.link, sectors := s.sectors.set t (m.sector t), slots := m.slots, emergency := m.emergency } ∧
      (∀ u n, m.slot u n =
        if u ≠ t then s.slot u n
        else match s.slot t n with
          | .closed => if n.val < c then .free else .closed
          | .free => if n.val < c then .free else .closed
          | .active call => .active call
          | .vacating call v => if n.val < c then .vacating call v else .vacating call { v with beneficiary := none }
          | .stuck call => .stuck call) ∧
      m.emergency = s.emergency.map (fun e => e.withoutEarmarkOn (fun p => decide (p.1 = t ∧ c ≤ p.2.val))) ∧
      (let answered := fun u : State => exec (.sectorSet (.ok f)) s =
        .next (u.pushReply (.sectorAccepted .sectorSet t (if r.state = .disabled then .opened else r.state)))
      ((∃ n : SlotId, c ≤ n.val ∧ (s.slot t n).earmarked = true) → answered (serveWalk walk m).pass) ∧
      ((∀ n : SlotId, c ≤ n.val → (s.slot t n).earmarked = false) → answered (serveWalk walk m)))

/-- R16 (with R9, R17): SECTOR-DRAIN of an OPEN sector drops the earmarks of its slots, and leaves it DRAINED, with a DRAINED report
offered, when nothing occupies it, and DRAINING otherwise; a pass follows a dropped earmark. Elsewhere it is rejected NOT-OPEN. -/
def Obligations.SectorDrain : Prop :=
  ∀ (s : State) (o : Octet), s.Takes (.sectorDrain (.ok o)) → s.RecordsPaired →
    let t := toSector o
    let r := s.sector t
    let empty := s.occupancy t = 0
    let final := if empty then SectorState.drained else SectorState.draining
    let rejected := fun (code : RejectCode) (field : Octet) =>
      exec (.sectorDrain (.ok o)) s = .next (s.afterTaking.pushReply (.reject (some .sectorDrain) code field 0))
    (15 < o.toNat → rejected .badField 1) ∧
    (o.toNat ≤ 15 → r.state ≠ .opened → rejected .notOpen 0) ∧
    (o.toNat ≤ 15 → r.state = .opened →
      ∃ m : State,
        m = { s with link := (if empty then s.afterTaking.offerStatus (.drained t) else s.afterTaking).link,
                     sectors := s.sectors.set t { r with state := final }, slots := m.slots, emergency := m.emergency } ∧
        (∀ u n, m.slot u n = match s.slot u n with
          | .vacating call v => if u = t then .vacating call { v with beneficiary := none } else .vacating call v
          | x => x) ∧
        m.emergency = s.emergency.map (fun e => e.withoutEarmarkOn (fun p => decide (p.1 = t))) ∧
        (let answered := fun u : State =>
          exec (.sectorDrain (.ok o)) s = .next (u.pushReply (.sectorAccepted .sectorDrain t final))
        ((∃ n, (s.slot t n).earmarked = true) → answered m.pass) ∧ ((∀ n, (s.slot t n).earmarked = false) → answered m)))

/-- R18 (with R9): SECTOR-RESUME opens a DRAINING or DRAINED sector and serves its FREE slots; it changes nothing in an OPEN one and is
rejected for a DISABLED one. -/
def Obligations.SectorResume : Prop :=
  ∀ (s : State) (o : Octet), s.Takes (.sectorResume (.ok o)) →
    let t := toSector o
    let r := s.sector t
    exec (.sectorResume (.ok o)) s = .next (
      if 15 < o.toNat then s.afterTaking.pushReply (.reject (some .sectorResume) .badField 1 0)
      else match r.state with
        | .disabled => s.afterTaking.pushReply (.reject (some .sectorResume) .sectorDisabled 0 0)
        | .opened => s.afterTaking.pushReply (.sectorAccepted .sectorResume t .opened)
        | _ => (serveWalk (placesOf t) (s.afterTaking.setSector t { r with state := .opened })).pushReply
          (.sectorAccepted .sectorResume t .opened))

/-- R19 (with R9): SECTOR-DISABLE disables a DRAINED sector, or an OPEN one that is empty and that no waiting entry names; every FREE
slot becomes CLOSED, and nothing else of the sector changes. -/
def Obligations.SectorDisable : Prop :=
  ∀ (s : State) (o : Octet), s.Takes (.sectorDisable (.ok o)) → s.SlotsLawful →
    let t := toSector o
    let r := s.sector t
    let busy := 0 < s.occupancy t ∨ ∃ e ∈ s.emergency ++ s.priority ++ s.general, e.sector = t
    let rejected := fun (code : RejectCode) (field : Octet) =>
      exec (.sectorDisable (.ok o)) s = .next (s.afterTaking.pushReply (.reject (some .sectorDisable) code field 0))
    let accepted := fun u : State =>
      exec (.sectorDisable (.ok o)) s = .next (u.pushReply (.sectorAccepted .sectorDisable t .disabled))
    (15 < o.toNat → rejected .badField 1) ∧
    (o.toNat ≤ 15 → r.state = .draining → rejected .busy 0) ∧
    (o.toNat ≤ 15 → r.state = .opened → busy → rejected .busy 0) ∧
    (o.toNat ≤ 15 → r.state = .disabled → accepted s.afterTaking) ∧
    (o.toNat ≤ 15 → r.state = .drained ∨ (r.state = .opened ∧ ¬busy) →
      ∃ m : State, m = { s.afterTaking with sectors := s.sectors.set t { r with state := .disabled }, slots := m.slots } ∧
        (∀ u n, m.slot u n = if u = t then .closed else s.slot u n) ∧ accepted m)

/-! ## The screening edit requests -/

/-- R29, R30, R31: the decision of a SCREEN-SET, whose class codes are 1 EMERGENCY, 2 PRIORITY, 3 GENERAL and whose action codes are
1 ASSIGN, 2 BAR (section 10.6). The range checks come in message order, then the lock; a disabled entry takes every
written field; an enabled one is decided by the first case that fits. -/
def Obligations.ScreenSetDecision : Prop :=
  ∀ (s : State) (f : ScreenSetFields) (new : ScreenContent), s.Takes (.screenSet (.ok f)) →
    new.enabled = decide (f.enabled = 1) → new.mask = f.mask.setWidth 21 →
    (∀ n < 21, new.matchValue.getLsbD n = (f.matchValue.getLsbD n && f.mask.getLsbD n)) →
    (f.action = 1 → f.cls = 1 → new.action = .assign .emergency (decide (f.preemptible = 1))) →
    (f.action = 1 → f.cls = 2 → new.action = .assign .priority (decide (f.preemptible = 1))) →
    (f.action = 1 → f.cls = 3 → new.action = .assign .general (decide (f.preemptible = 1))) →
    (f.action = 2 → ∀ reason : Fin 16, reason.val = f.reason.toNat → new.action = .bar reason) →
    let i := toScreenIndex f.index
    let e := s.screenEntry i
    let rejected := fun (code : RejectCode) (field : Octet) =>
      exec (.screenSet (.ok f)) s = .next (s.afterTaking.pushReply (.reject (some .screenSet) code field 0))
    let accepted := fun x : ScreenEntry =>
      exec (.screenSet (.ok f)) s =
        .next ((s.afterTaking.setScreenEntry i x).pushReply (.screenAccepted .screenSet i))
    if 31 < f.index.toNat then rejected .badField 1
    else if 1 < f.enabled.toNat then rejected .badField 2
    else if 2 ^ 21 ≤ f.matchValue.toNat then rejected .badField 3
    else if 2 ^ 21 ≤ f.mask.toNat then rejected .badField 4
    else if f.action ≠ 1 ∧ f.action ≠ 2 then rejected .badField 5
    else if f.action = 1 ∧ (f.cls.toNat = 0 ∨ 3 < f.cls.toNat) then rejected .badField 6
    else if f.action = 1 ∧ 1 < f.preemptible.toNat then rejected .badField 7
    else if f.action = 2 ∧ (f.reason.toNat = 0 ∨ 15 < f.reason.toNat) then rejected .badField 8
    else if s.guardLock ∧ e.content.enabled ∧
        (e.content.action.assignsEmergency ∨ ((s.heldCopy i).any (fun h => h.action.assignsEmergency))) then
      rejected .locked 0
    else if e.content.enabled = false then
      accepted { content := new, hits := if new.enabled then 0 else e.hits }
    else if new.mask ≠ e.content.mask ∨ new.matchValue ≠ e.content.matchValue then rejected .writeDenied 0
    else if new.enabled = false then
      (if (s.heldCopy i).isSome then rejected .writeDenied 0
      else accepted { e with content := { e.content with enabled := false, action := new.action } })
    else if new.action ≠ e.content.action then
      (if (s.heldCopy i).isSome then accepted { e with content := { e.content with action := new.action } }
      else rejected .writeDenied 0)
    else accepted e

/-- R32: SCREEN-HOLD, its checks in order; an accepted one copies the entry into its held copy. The field number of the BAD-FIELD for
a disabled entry is the model's reading (log 14). -/
def Obligations.ScreenHold : Prop :=
  ∀ (s : State) (o : Octet), s.Takes (.screenHold (.ok o)) →
    let i := toScreenIndex o
    let c := (s.screenEntry i).content
    let rejected := fun (code : RejectCode) (field : Octet) =>
      exec (.screenHold (.ok o)) s = .next (s.afterTaking.pushReply (.reject (some .screenHold) code field 0))
    if 31 < o.toNat then rejected .badField 1
    else if s.screening.hold ≠ none then rejected .busy 0
    else if c.enabled = false then rejected .badField 1
    else if s.guardLock ∧ c.action.assignsEmergency then rejected .locked 0
    else exec (.screenHold (.ok o)) s = .next (({ s.afterTaking with
      screening := { s.screening with hold := some ⟨i, c⟩ } } : State).pushReply (.screenAccepted .screenHold i))

/-- R34: SCREEN-FREE. Under the lock a hold whose copy assigns EMERGENCY and differs from the stored action stays open; every other
hold closes, its copy discarded. -/
def Obligations.ScreenFree : Prop :=
  ∀ s : State, s.Takes (.screenFree (.ok ())) →
    let rejected := fun code : RejectCode =>
      exec (.screenFree (.ok ())) s = .next (s.afterTaking.pushReply (.reject (some .screenFree) code 0 0))
    (s.screening.hold = none → rejected .notOpen) ∧
    (∀ h, s.screening.hold = some h →
      let weakened := s.guardLock = true ∧ (∃ p, h.copy.action = .assign .emergency p) ∧
        (s.screenEntry h.index).content.action ≠ h.copy.action
      (weakened → rejected .locked) ∧
      (¬weakened → exec (.screenFree (.ok ())) s =
        .next (({ s.afterTaking with screening := { s.screening with hold := none } } : State).pushReply
          (.screenAccepted .screenFree h.index))))

/-! ## The load governor -/

/-- R114, R115, R148, R185: LEVEL-SET checks its fields in message order and replaces a row of the staged table; TIMER-SET checks its
settings in message order and writes the eight settings and the staged epoch period; GUARD-LOCK sets the lock, and a lock already set
stays set. Nothing else changes. -/
def Obligations.LevelSetTimerSetGuardLock : Prop :=
  (∀ (s : State) (f : LevelSetFields), s.Takes (.levelSet (.ok f)) →
    let rejected := fun field : Octet => s.afterTaking.pushReply (.reject (some .levelSet) .badField field 0)
    let row : LevelRow :=
      { threshold := f.threshold.toNat, refill := f.refill.toNat, barPct := f.barPct.toNat, barTime := f.barTime.toNat,
        base := f.base.toNat }
    exec (.levelSet (.ok f)) s = .next (
      if 7 < f.level.toNat then rejected 1
      else if 4095 < f.threshold.toNat ∨ (f.level = 0 ∧ f.threshold ≠ 0) then rejected 2
      else if 100 < f.barPct.toNat ∨ f.barPct.toNat % 5 ≠ 0 then rejected 4
      else if f.barTime.toNat < 4 ∨ 512 < f.barTime.toNat then rejected 5
      else if 4095 < f.base.toNat then rejected 6
      else ({ s.afterTaking with
        governor := { s.governor with stagedTable := s.governor.stagedTable.set (toLevel f.level) row } } : State).pushReply
        (.levelAccepted (toLevel f.level)))) ∧
  (∀ (s : State) (f : TimerSetFields), s.Takes (.timerSet (.ok f)) →
    let rejected := fun field : Octet => s.afterTaking.pushReply (.reject (some .timerSet) .badField field 0)
    exec (.timerSet (.ok f)) s = .next (
      if f.generalWait.toNat = 0 then rejected 1
      else if f.priorityWait.toNat = 0 then rejected 2
      else if f.emergencyWait.toNat = 0 then rejected 3
      else if 60 < f.escalationTime.toNat then rejected 4
      else if f.vacateTimeout.toNat < 200 ∨ 10000 < f.vacateTimeout.toNat then rejected 5
      else if f.repeatWindow.toNat = 0 ∨ 600 < f.repeatWindow.toNat then rejected 6
      else if 4095 < f.jitter.toNat then rejected 7
      else if f.policy ≠ 1 ∧ f.policy ≠ 2 then rejected 8
      else if f.epochPeriod.toNat < 100 ∨ 5000 < f.epochPeriod.toNat ∨ f.epochPeriod.toNat % 100 ≠ 0 then rejected 9
      else ({ s.afterTaking with
        settings :=
          { generalWait := f.generalWait.toNat, priorityWait := f.priorityWait.toNat, emergencyWait := f.emergencyWait.toNat,
            escalationTime := f.escalationTime.toNat, vacateTimeout := f.vacateTimeout.toNat,
            repeatWindow := f.repeatWindow.toNat, jitter := f.jitter.toNat,
            policy := if f.policy = 1 then .protect else .displace }
        governor := { s.governor with stagedPeriod := f.epochPeriod.toNat } } : State).pushReply (.accepted .timerSet))) ∧
  (∀ s : State, s.Takes (.guardLock (.ok ())) →
    exec (.guardLock (.ok ())) s = .next (({ s.afterTaking with guardLock := true } : State).pushReply (.accepted .guardLock)) ∧
    (s.guardLock = true → exec (.guardLock (.ok ())) s = .next (s.afterTaking.pushReply (.accepted .guardLock))))

/-- R129: SURGE-OPEN. The window stands with the floor carried and closes after the duration; sectors below the floor are raised to
it with a cleared history; LEVEL, OPENED and, with 10 s or less to run, CLOSING reports are offered in that order. What offering a
report to the status lane does (R164, R165): it takes the place of the unsent LEVEL for its sector or of the unsent SURGE; else it joins
the tail of a lane of fewer than 32; else it is lost and counted. The head of the lane is not unsent while it is in transmission. -/
def Obligations.SurgeOpen : Prop :=
  (∀ (u : State) (r : StatusReport),
    let lane := u.link.statusLane
    let sent := match u.link.sending with
      | some d => if d.source = .status then 1 else 0
      | none => 0
    let replaces := fun old : StatusReport =>
      match r, old with
      | .level t _ _ _, .level v _ _ _ => t = v
      | .surge .., .surge .. => True
      | _, _ => False
    let kept := fun l : List StatusReport => u.offerStatus r = { u with link := { u.link with statusLane := l } }
    (∀ head older old newer, lane = head ++ older ++ old :: newer → head.length = sent → (∀ x ∈ older, ¬replaces x) →
      replaces old → kept (head ++ older ++ r :: newer)) ∧
    ((∀ x ∈ lane.drop sent, ¬replaces x) → lane.length < 32 → kept (lane ++ [r])) ∧
    ((∀ x ∈ lane.drop sent, ¬replaces x) → 32 ≤ lane.length →
      u.offerStatus r = { u with link := { u.link with
        statusLost := if u.link.statusLost < 65535 then u.link.statusLost + 1 else u.link.statusLost } })) ∧
  ∀ (s : State) (f : SurgeOpenFields), s.Takes (.surgeOpen (.ok f)) →
    let rejected := fun field : Octet =>
      exec (.surgeOpen (.ok f)) s = .next (s.afterTaking.pushReply (.reject (some .surgeOpen) .badField field 0))
    let seconds := f.duration.toNat
    let floor := toLevel f.floor
    let row := s.governor.activeTable.get floor
    let raised := fun t : SectorId => decide ((s.sector t).state ≠ .disabled ∧ (s.sector t).level < floor)
    let reports := (allSectors.filter raised).map (fun t => StatusReport.level t floor row.barPct row.barTime) ++
      [.surge .opened floor seconds] ++ (if seconds ≤ 10 then [.surge .closing floor seconds] else [])
    (seconds = 0 ∨ 3600 < seconds → rejected 1) ∧
    (1 ≤ seconds → seconds ≤ 3600 → 7 < f.floor.toNat → rejected 2) ∧
    (1 ≤ seconds → seconds ≤ 3600 → f.floor.toNat ≤ 7 →
      ∃ m : State,
        m = { s with
          link := (s.afterTaking.offerAll reports).link
          sectors := m.sectors
          governor := { s.governor with
            surge := some { floor := floor, close := after s.localTime (seconds * 1000), noticeDue := decide (10 < seconds) } } } ∧
        (∀ t, m.sector t = if raised t then { s.sector t with level := floor, votes := ⟨.hold, .hold, .hold⟩ } else s.sector t) ∧
        exec (.surgeOpen (.ok f)) s = .next (m.pushReply (.surgeAccepted .surgeOpen floor seconds)))

/-- R130: SURGE-EXTEND. The seconds are checked first; with the window open and `left` ms to run, the close time moves later, at most
one hour ahead, and the notice becomes due when more than 10 s are left. -/
def Obligations.SurgeExtend : Prop :=
  ∀ (s : State) (seconds : BitVec 16), s.Takes (.surgeExtend (.ok seconds)) →
    let rejected := fun (code : RejectCode) (field : Octet) =>
      exec (.surgeExtend (.ok seconds)) s = .next (s.afterTaking.pushReply (.reject (some .surgeExtend) code field 0))
    (seconds.toNat = 0 ∨ 3600 < seconds.toNat → rejected .badField 1) ∧
    (1 ≤ seconds.toNat → seconds.toNat ≤ 3600 → s.governor.surge = none → rejected .notOpen 0) ∧
    (∀ (w : Surge) (left : Nat), 1 ≤ seconds.toNat → seconds.toNat ≤ 3600 → s.governor.surge = some w →
      w.close = after s.localTime left → left ≤ 3600000 →
      let newLeft := min (left + seconds.toNat * 1000) 3600000
      let w' : Surge :=
        { floor := w.floor, close := after s.localTime newLeft, noticeDue := w.noticeDue || decide (10000 < newLeft) }
      exec (.surgeExtend (.ok seconds)) s =
        .next (({ s.afterTaking with governor := { s.governor with surge := some w' } } : State).pushReply
          (.surgeAccepted .surgeExtend w.floor ((newLeft + 999) / 1000))))

/-- R131, R132: the end of a surge window. At the closing point a notice that is due is placed and marked sent; at the close time, and
at SURGE-CLOSE, the window closes with a CLOSED report and no level changes. -/
def Obligations.SurgeWindowEnds : Prop :=
  ∀ s : State,
    let closed := fun (u : State) (w : Surge) =>
      ({ u with governor := { s.governor with surge := none } } : State).offerStatus (.surge .closed w.floor 0)
    (s.Takes (.surgeClose (.ok ())) →
      (s.governor.surge = none → exec (.surgeClose (.ok ())) s =
        .next (s.afterTaking.pushReply (.reject (some .surgeClose) .notOpen 0 0))) ∧
      (∀ w, s.governor.surge = some w →
        exec (.surgeClose (.ok ())) s = .next ((closed s.afterTaking w).pushReply (.accepted .surgeClose)))) ∧
    (∀ w, s.inReset = false → s.governor.surge = some w → 0 ≤ signedDiff s.localTime w.close →
      exec .surgeExpiry s = .next (closed s w)) ∧
    (∀ (w : Surge) (left : Nat), s.inReset = false → s.governor.surge = some w → w.noticeDue = true →
      w.close = after s.localTime left → left ≤ 10000 →
      exec .closingPoint s =
        .next (({ s with governor := { s.governor with surge := some { w with noticeDue := false } } } : State).offerStatus
          (.surge .closing w.floor ((left + 999) / 1000))))

/-- R119: the pressure update. The new pressure is P plus (d x W + 8) / 16 rounded toward minus infinity; it never passes L, equals it
at W = 16, and stands still exactly when d x W lies in -8..7. -/
def Obligations.PressureUpdate : Prop :=
  ∀ p l w : Nat, p ≤ 4095 → l ≤ 4095 → 1 ≤ w → w ≤ 16 →
    let d : Int := (l : Int) - (p : Int)
    ((newPressure p l w : Nat) : Int) = (p : Int) + (d * (w : Int) + 8) / 16 ∧
    min p l ≤ newPressure p l w ∧ newPressure p l w ≤ max p l ∧
    (w = 16 → newPressure p l w = l) ∧
    (newPressure p l w = p ↔ -8 ≤ d * (w : Int) ∧ d * (w : Int) ≤ 7)

/-- R122: a sector's vote and its outcome. `votes` counts the history after the append, which two or three equal votes UP, or DOWN
with the decrease allowed, clear with one step of the level. -/
def Obligations.VoteMovesTheLevel : Prop :=
  ∀ (w : Option Surge) (level target : LevelId) (h : VoteHistory),
    let vote : Vote := if level < target then .up else if target < level then .down else .hold
    let h' : VoteHistory := ⟨h.middle, h.newest, vote⟩
    let votes := fun v : Vote => [h.middle, h.newest, vote].count v
    let allowed := ∀ x, w = some x → x.floor.val + 1 ≤ level.val
    let result := afterVote w level h (voteFor target level)
    (2 ≤ votes .up → level.val < 7 → result.1.val = level.val + 1 ∧ result.2 = ⟨.hold, .hold, .hold⟩) ∧
    (votes .up < 2 → 2 ≤ votes .down → allowed → 0 < level.val →
      result.1.val + 1 = level.val ∧ result.2 = ⟨.hold, .hold, .hold⟩) ∧
    (votes .up < 2 → votes .down < 2 ∨ ¬allowed → result = (level, h')) ∧
    (2 ≤ votes .down → vote = .down → (∀ x, w = some x → x.floor ≤ target) → allowed)

/-- R116 (with R115, R117, R118, R121, R124, R126): an epoch boundary. The staged copies become active and the next boundary is set;
each sector that is not DISABLED takes its new pressure, level, history and tokens; the LEVEL reports of changed broadcast values are
offered in sector order; a victim-search pass follows. -/
def Obligations.EpochBoundary : Prop :=
  ∀ s : State, s.inReset = false → s.InRange → 0 ≤ signedDiff s.localTime s.governor.nextBoundary →
    let g := s.governor
    let table := g.stagedTable
    let waits := fun t : SectorId => (s.emergency ++ s.priority ++ s.general).countP (fun e => decide (e.sector = t))
    ∃ m : State,
      (∀ t, let r := s.sector t
        let load := if r.capacity = 0 then 4095 else min ((s.occupancy t + waits t) * 1024 / r.capacity) 4095
        let p := newPressure r.pressure load r.weight
        if r.state = .disabled then m.sector t = r
        else ∃ top target : LevelId,
          (table.get top).threshold ≤ p ∧ (∀ n, top < n → p < (table.get n).threshold) ∧
          target = (match g.surge with
            | some w => max top w.floor
            | none => top) ∧
          let moved := afterVote g.surge r.level r.votes (voteFor target r.level)
          m.sector t = { r with pressure := p, level := moved.1, votes := moved.2,
                                tokens := min r.depth (r.tokens + (table.get moved.1).refill) }) ∧
      (let due := fun t : SectorId =>
        let old := g.activeTable.get (s.sector t).level
        let new := table.get (m.sector t).level
        if (s.sector t).state = .disabled ∨
            ((s.sector t).level = (m.sector t).level ∧ old.barPct = new.barPct ∧ old.barTime = new.barTime) then none
        else some (StatusReport.level t (m.sector t).level new.barPct new.barTime)
      m = { s with
        link := (s.offerAll (allSectors.filterMap due)).link
        sectors := m.sectors
        governor := { g with activeTable := table, activePeriod := g.stagedPeriod,
                             nextBoundary := after g.nextBoundary g.stagedPeriod } }) ∧
      exec .epochBoundary s = .next m.pass

/-! ## Protection, audit, queries and restart -/

/-- R187, R188: AUDIT checks its fields in message order, then compares its pairs with the slots up to the first mismatch, and changes
nothing. -/
def Obligations.AuditComparesPairs : Prop :=
  ∀ (s : State) (f : AuditFields), s.Takes (.audit (.ok f)) → 1 ≤ f.pairs.length → f.pairs.length ≤ 12 →
    let t := toSector f.sector
    let answered := fun r : Reply => exec (.audit (.ok f)) s = .next (s.afterTaking.pushReply r)
    let agrees := fun p : AuditPair =>
      (∃ c, (s.slot t (toSlot p.slot)).call? = some c ∧ c.tag = p.tag) ∨ ((s.slot t (toSlot p.slot)).call? = none ∧ p.tag = 0)
    (15 < f.sector.toNat → answered (.reject (some .audit) .badField 1 0)) ∧
    (f.sector.toNat ≤ 15 →
      (∀ before p later, f.pairs = before ++ p :: later → (∀ q ∈ before, q.slot.toNat ≤ 23) → 23 < p.slot.toNat →
        answered (.reject (some .audit) .badField (octet (2 * (before.length + 1) + 1)) 0)) ∧
      ((∀ q ∈ f.pairs, q.slot.toNat ≤ 23) →
        ((∀ q ∈ f.pairs, agrees q) → answered (.audited t f.pairs.length 0 none)) ∧
        (∀ before p later, f.pairs = before ++ p :: later → (∀ q ∈ before, agrees q) → ¬agrees p →
          answered (.audited t before.length (before.length + 1)
            (some (match s.slot t (toSlot p.slot) with
              | .closed => (.closed, 0)
              | .free => (.free, 0)
              | .active c => (.active, c.tag)
              | .vacating c v => (match v.attempt with
                | .first => .vacating1
                | .second => .vacating2, c.tag)
              | .stuck c => (.stuck, c.tag)))))))

/-- R189 to R195: the six queries answer from the state as it stands and change nothing but the queues. QUERY-LIST names a class by
its code, 1 EMERGENCY, 2 PRIORITY, 3 GENERAL (section 10.6). The figures of QUERY-STATUS
are those of R190; past its close time an open window shows 0 s (log 19). The pending-expiry flag says whether some expiry is pending
for room (R154). The five slot counts of a sector are taken over all 24 slots and sum to 24 (R191). -/
def Obligations.QueriesReadTheState : Prop :=
  ∀ s : State,
    let answered := fun (i : Instr) (r : Reply) => s.Takes i → exec i s = .next (s.afterTaking.pushReply r)
    let badField := fun (k : RequestKind) (field : Octet) => Reply.reject (some k) .badField field 0
    answered (.queryStatus (.ok ())) (.status s.statusInfo) ∧
    answered (.queryLevels (.ok ())) (.levelsInfo s.governor.activePeriod s.governor.stagedPeriod s.governor.activeTable
      s.governor.stagedTable) ∧
    (∀ o, answered (.querySector (.ok o)) (
      if 15 < o.toNat then badField .querySector 1
      else .sectorInfo (toSector o) (s.sector (toSector o)) (s.slotCounts (toSector o)))) ∧
    (∀ f, answered (.querySlots (.ok f)) (
      if 15 < f.sector.toNat then badField .querySlots 1
      else if 23 < f.firstSlot.toNat then badField .querySlots 2
      else .slotsInfo (toSector f.sector) (toSlot f.firstSlot)
        (((allSlots.drop f.firstSlot.toNat).take 12).map (s.slot (toSector f.sector))))) ∧
    (∀ f, answered (.queryList (.ok f)) (
      let listed := fun (c : CallClass) (l : List Waiting) =>
        Reply.listInfo c f.start.toNat l.length ((l.drop (f.start.toNat - 1)).take 8)
      if f.cls = 0 ∨ 3 < f.cls.toNat then badField .queryList 1
      else if f.start = 0 then badField .queryList 2
      else if f.cls = 1 then listed .emergency s.emergency
      else if f.cls = 2 then listed .priority s.priority
      else listed .general s.general)) ∧
    (∀ o, answered (.queryScreen (.ok o)) (
      if 31 < o.toNat then badField .queryScreen 1
      else .screenInfo (toScreenIndex o) (s.screenEntry (toScreenIndex o)) (s.heldCopy (toScreenIndex o)))) ∧
    (let q := s.statusInfo;
      q.localTime = s.localTime ∧ q.emergencyLength = s.emergency.length ∧ q.priorityLength = s.priority.length ∧
        q.generalLength = s.general.length ∧ q.actionFill = s.link.actionLane.length ∧
        q.statusFill = s.link.statusLane.length ∧ q.statusLost = s.link.statusLost ∧ q.emergencyFull = s.emergencyFull ∧
        q.gapCount = s.link.gapCount ∧ q.checkCount = s.link.checkCount ∧ q.overrunCount = s.link.overrunCount ∧
        q.guardLock = s.guardLock ∧ q.serviceDeferred = s.serviceDeferred ∧ q.passDeferred = s.passDeferred ∧
        q.settings = s.settings ∧
      (s.governor.surge = none → q.surgeOpen = false ∧ q.surgeFloor = 0 ∧ q.surgeRemaining = 0) ∧
      (∀ w, s.governor.surge = some w → q.surgeOpen = true ∧ q.surgeFloor = w.floor.val ∧
        (signedDiff w.close s.localTime ≤ 0 → q.surgeRemaining = 0) ∧
        (∀ left : Nat, signedDiff w.close s.localTime = left → q.surgeRemaining = (left + 999) / 1000)) ∧
      (s.screening.hold = none → q.heldIndex = none) ∧ (∀ h, s.screening.hold = some h → q.heldIndex = some h.index) ∧
      (s.emergency = [] → q.oldestEmergency = none) ∧
      (∀ e rest, s.emergency = e :: rest → q.oldestEmergency = some e.tag)) ∧
    (s.statusInfo.expiryPending = true ↔
      (∃ e ∈ s.emergency ++ s.priority ++ s.general, e.watch ≠ .watched) ∨
        ∃ t n c v, s.slot t n = .vacating c v ∧ v.watch ≠ .watched) ∧
    (∀ t, let k := s.slotCounts t
      let counted := fun p : Slot → Bool => allSlots.countP (fun n => p (s.slot t n))
      k.closed + k.free + k.active + k.vacating + k.stuck = 24 ∧ k.active + k.vacating + k.stuck = s.occupancy t ∧
      k.closed = counted (fun x => decide (x = .closed)) ∧ k.free = counted (fun x => decide (x = .free)) ∧
      k.free = s.freeCount t ∧
      k.active = counted (fun x => match x with | .active _ => true | _ => false) ∧
      k.vacating = counted (fun x => match x with | .vacating _ _ => true | _ => false) ∧
      k.stuck = counted (fun x => match x with | .stuck _ => true | _ => false))

/-- The layouts of section 10.6 and chapter 11, octet by octet: the kinds and bodies of the nine reports, the bodies of every reply and
of a reject, and their lengths. A field of more than one octet is sent high octet first (R173); octets that an outcome or a slot's state
does not carry are sent as 0. -/
def Obligations.MessageBodyLengths : Prop :=
  let o1 := fun n : Nat => (BitVec.ofNat 8 n : Octet)
  let o2 := fun n : Nat => [o1 (n / 256), o1 n]
  let o3 := fun v : ScreenKey => [o1 (v.toNat / 65536), o1 (v.toNat / 256), o1 v.toNat]
  let o4 := fun v : BitVec 32 => [o1 (v.toNat / 16777216), o1 (v.toNat / 65536), o1 (v.toNat / 256), o1 v.toNat]
  let flag := fun b : Bool => if b then (1 : Octet) else 0
  let cls : CallClass → Octet := fun c =>
    match c with
    | .emergency => 1
    | .priority => 2
    | .general => 3
  let state : SlotCode → Octet := fun x =>
    match x with
    | .closed => 0
    | .free => 1
    | .active => 2
    | .vacating1 => 3
    | .vacating2 => 4
    | .stuck => 5
  let sectorState : SectorState → Octet := fun x =>
    match x with
    | .disabled => 0
    | .opened => 1
    | .draining => 2
    | .drained => 3
  let vote : Vote → Octet := fun v =>
    match v with
    | .up => 1
    | .hold => 2
    | .down => 3
  let code : RejectCode → Octet := fun c =>
    match c with
    | .badField => 0x01
    | .badLength => 0x02
    | .unknownKind => 0x03
    | .unknownTag => 0x04
    | .duplicateTag => 0x05
    | .sectorDisabled => 0x06
    | .notActive => 0x07
    | .notWaiting => 0x08
    | .notOpen => 0x09
    | .busy => 0x0A
    | .writeDenied => 0x0B
    | .locked => 0x0C
  let attempt : Attempt → Octet := fun x =>
    match x with
    | .first => 1
    | .second => 2
  let cause : ExpiredCause → Octet := fun x =>
    match x with
    | .timeout => 1
    | .displaced => 2
  let event : SurgeEvent → Octet := fun x =>
    match x with
    | .opened => 1
    | .closing => 2
    | .closed => 3
  let policy : ListPolicy → Octet := fun x =>
    match x with
    | .protect => 1
    | .displace => 2
  let refusedClass : RefusalReason → Octet := fun x =>
    match x with
    | .barred _ _ => 0
    | .throttled => 3
    | .listFull c => cls c
    | .draining c => cls c
    | .emergencyFull => 1
  let why : RefusalReason → List Octet := fun x =>
    match x with
    | .barred i r => [1, o1 i.val, o1 r.val]
    | .throttled => [2, 0, 0]
    | .listFull _ => [3, 0, 0]
    | .draining _ => [4, 0, 0]
    | .emergencyFull => [5, 0, 0]
  let call : Call → List Octet := fun c =>
    [cls c.cls, flag c.preemptible, o1 c.origin.val] ++ o4 c.tag ++ o4 c.admitTime
  let record : Slot → List Octet := fun x =>
    match x with
    | .closed => 0 :: List.replicate 19 0
    | .free => 1 :: List.replicate 19 0
    | .active c => 2 :: call c ++ o4 0 ++ o4 0
    | .vacating c ⟨.first, deadline, _, b⟩ => 3 :: call c ++ o4 deadline ++ o4 (b.getD 0)
    | .vacating c ⟨.second, deadline, _, b⟩ => 4 :: call c ++ o4 deadline ++ o4 (b.getD 0)
    | .stuck c => 5 :: call c ++ o4 0 ++ o4 0
  let earmark : Option Place → List Octet := fun x =>
    match x with
    | some (t, n) => [1, o1 t.val, o1 n.val]
    | none => [0, 0, 0]
  let waiting : Waiting → List Octet := fun e =>
    o4 e.tag ++ [o1 e.sector.val] ++ o4 e.key ++ [flag e.preemptible] ++ o4 e.arrival ++ o4 e.deadline ++
      (if e.cls = .emergency then [o1 e.merged, flag e.escalated] ++ earmark e.earmark else [0, 0, 0, 0, 0])
  let action : ScreenAction → List Octet := fun x =>
    match x with
    | .assign c p => [1, cls c, flag p, 0]
    | .bar reason => [2, 0, 0, o1 reason.val]
  let entry : ScreenContent → List Octet := fun c =>
    [flag c.enabled] ++ o3 c.matchValue ++ o3 c.mask ++ action c.action
  let row := fun r : LevelRow => o2 r.threshold ++ [o1 r.refill, o1 r.barPct] ++ o2 r.barTime ++ o2 r.base
  let rows := fun t : Table LevelRow 8 => allLevels.flatMap (fun l => row (t.get l))
  (∀ r : ActionReport, (r.kind, r.body) = match r with
    | .grant tag (t, n) c waited => (0xC1, o4 tag ++ [o1 t.val, o1 n.val, cls c] ++ o4 waited)
    | .preempt tag (t, n) x => (0xC2, o4 tag ++ [o1 t.val, o1 n.val, attempt x])
    | .withdraw tag (t, n) => (0xC3, o4 tag ++ [o1 t.val, o1 n.val])
    | .expired tag c x waited hint => (0xC4, o4 tag ++ [cls c, cause x] ++ o4 waited ++ o2 hint)
    | .stuck tag (t, n) => (0xC5, o4 tag ++ [o1 t.val, o1 n.val])) ∧
  (∀ r : StatusReport, (r.kind, r.body) = match r with
    | .level t l pct time => (0xD1, [o1 t.val, o1 l.val, o1 pct] ++ o2 time)
    | .surge e f left => (0xD2, [event e, o1 f.val] ++ o2 left)
    | .drained t => (0xD3, [o1 t.val])
    | .noisy g c o => (0xD4, o2 g ++ o2 c ++ o2 o)) ∧
  (∀ about c (field : Octet) tag, Reply.body (.reject about c field tag) = [code c, field] ++ o4 tag) ∧
  (∀ tag (t : SectorId) (n : SlotId) c pre, Reply.body (.granted tag (t, n) c pre) =
    [0, 1] ++ o4 tag ++ [o1 t.val, o1 n.val, cls c, flag pre, 0, 0, 0, 0, 0, 0, 0, 0, 0, 0, 0]) ∧
  (∀ tag c n pre, Reply.body (.queued tag c n pre) =
    [0, 2] ++ o4 tag ++ [0, 0, cls c, flag pre, o1 n, 0, 0, 0, 0, 0, 0, 0, 0, 0, 0]) ∧
  (∀ tag old m n mark, Reply.body (.merged tag old m n mark) =
    [0, 3] ++ o4 tag ++ [0, 0, 0, flag mark, o1 n, o1 m] ++ o4 old ++ [0, 0, 0, 0, 0]) ∧
  (∀ tag reason hint, Reply.body (.refused tag reason hint) =
    [0, 4] ++ o4 tag ++ [0, 0, refusedClass reason, 0, 0, 0, 0, 0, 0, 0] ++ why reason ++ o2 hint) ∧
  (∀ tag (t : SectorId) (n : SlotId) x, Reply.body (.released tag (t, n) x) = [0] ++ o4 tag ++ [o1 t.val, o1 n.val, state x]) ∧
  (∀ tag c mark, Reply.body (.cancelled tag c mark) = [0] ++ o4 tag ++ [cls c, flag mark]) ∧
  (∀ k (t : SectorId) x, Reply.body (.sectorAccepted k t x) = [0, o1 t.val, sectorState x]) ∧
  (∀ k (i : ScreenIndex), Reply.body (.screenAccepted k i) = [0, o1 i.val]) ∧
  (∀ l : LevelId, Reply.body (.levelAccepted l) = [0, o1 l.val]) ∧
  (∀ k, Reply.body (.accepted k) = [0]) ∧
  (∀ k (f : LevelId) left, Reply.body (.surgeAccepted k f left) = [0, o1 f.val] ++ o2 left) ∧
  (∀ (t : SectorId) m n found, Reply.body (.audited t m n found) = [0, o1 t.val, o1 m, o1 n] ++ (match found with
    | some (x, tag) => [state x] ++ o4 tag
    | none => [0, 0, 0, 0, 0])) ∧
  (∀ i : StatusInfo, Reply.body (.status i) =
    [0] ++ o4 i.localTime ++ [o1 i.emergencyLength, o1 i.priorityLength, o1 i.generalLength, o1 i.actionFill, o1 i.statusFill] ++
      o2 i.statusLost ++ o2 i.emergencyFull ++ o2 i.gapCount ++ o2 i.checkCount ++ o2 i.overrunCount ++
      [flag i.guardLock, flag i.surgeOpen, o1 i.surgeFloor] ++ o2 i.surgeRemaining ++ [(i.heldIndex.map (fun n : ScreenIndex => o1 n.val)).getD 0xFF, flag i.serviceDeferred, flag i.passDeferred, flag i.expiryPending] ++
      o4 (i.oldestEmergency.getD 0) ++
      [o1 i.settings.generalWait, o1 i.settings.priorityWait, o1 i.settings.emergencyWait, o1 i.settings.escalationTime] ++
      o2 i.settings.vacateTimeout ++ o2 i.settings.repeatWindow ++ o2 i.settings.jitter ++ [policy i.settings.policy]) ∧
  (∀ (t : SectorId) (r : Sector) (n : SlotCounts), Reply.body (.sectorInfo t r n) =
    [0, o1 t.val, sectorState r.state, o1 r.capacity, o1 r.generalGuard, o1 r.priorityGuard, o1 r.neighbours.length] ++
      ((r.neighbours.map (fun u : SectorId => o1 u.val)) ++ [0, 0, 0]).take 3 ++ [o1 r.weight, o1 r.depth, o1 r.tokens] ++ o2 r.pressure ++
      [o1 r.level.val, vote r.votes.oldest, vote r.votes.middle, vote r.votes.newest, o1 n.closed, o1 n.free, o1 n.active,
        o1 n.vacating, o1 n.stuck]) ∧
  (∀ (t : SectorId) (n : SlotId) (l : List Slot), Reply.body (.slotsInfo t n l) =
    [0, o1 t.val, o1 n.val, o1 l.length] ++ l.flatMap record) ∧
  (∀ c start n (l : List Waiting), Reply.body (.listInfo c start n l) =
    [0, cls c, o1 start, o1 n, o1 l.length] ++ l.flatMap waiting) ∧
  (∀ (i : ScreenIndex) (e : ScreenEntry) held, Reply.body (.screenInfo i e held) =
    [0, o1 i.val] ++ entry e.content ++ o2 e.hits ++ (match held with
      | some c => 1 :: entry c
      | none => List.replicate 12 0)) ∧
  (∀ p q (t u : Table LevelRow 8), Reply.body (.levelsInfo p q t u) = [0] ++ o2 p ++ o2 q ++ rows t ++ rows u) ∧
  (∀ e p g, Reply.body (.done e p g) = [0, o1 e, o1 p, o1 g]) ∧
  (∀ r : Reply, r.body.length = match r with
    | .reject .. => 6
    | .granted .. => 21
    | .queued .. => 21
    | .merged .. => 21
    | .refused .. => 21
    | .released .. => 8
    | .cancelled .. => 7
    | .sectorAccepted .. => 3
    | .screenAccepted .. => 2
    | .levelAccepted .. => 2
    | .accepted .. => 1
    | .surgeAccepted .. => 4
    | .audited .. => 9
    | .status .. => 44
    | .sectorInfo .. => 24
    | .slotsInfo _ _ l => 4 + 20 * l.length
    | .listInfo _ _ _ l => 5 + 23 * l.length
    | .screenInfo .. => 27
    | .levelsInfo .. => 133
    | .done .. => 4) ∧
  (∀ r : ActionReport, r.body.length = match r with
    | .grant .. => 11
    | .preempt .. => 7
    | .withdraw .. => 6
    | .expired .. => 12
    | .stuck .. => 6) ∧
  (∀ r : StatusReport, r.body.length = match r with
    | .level .. => 5
    | .surge .. => 4
    | .drained _ => 1
    | .noisy .. => 6)

/-- R197 (with R20, R28, R36, R87, R112, R134, R145, R168, R184, R196): the effects of RESTART, all at one instant. That
it clears a signal not yet answered with its mark is a deduction of the model (log 8). -/
def Obligations.RestartClearsTheWaiting : Prop :=
  ∀ s : State, s.Takes (.restart (.ok ())) →
    ∃ m : State,
      m = { s.afterTaking with
        link := { s.afterTaking.link with
          statusLane := (match s.link.sending with
            | some d => if d.source = .status then s.link.statusLane.take 1 else []
            | none => [])
          gapCount := 0, checkCount := 0, overrunCount := 0, noiseRun := 0 }
        screening := { entries := m.screening.entries, hold := none }
        sectors := m.sectors, slots := m.slots, emergency := [], priority := [], general := []
        serviceDeferred := false, passDeferred := false, retrySignal := false, passSignal := false
        governor := { s.governor with surge := none, nextBoundary := after s.localTime s.governor.activePeriod }
        repeatTable := [] } ∧
      (∀ t, m.sector t = { s.sector t with votes := ⟨.hold, .hold, .hold⟩ }) ∧
      (∀ t n, m.slot t n = match s.slot t n with
        | .vacating c v => .vacating c { v with beneficiary := none }
        | x => x) ∧
      (∀ i, let e := s.screenEntry i
        m.screenEntry i = { hits := 0, content := { e.content with action := match s.heldCopy i with
          | some h =>
            if s.guardLock ∧ e.content.action.assignsEmergency ∧ ¬h.action.assignsEmergency then e.content.action else h.action
          | none => e.content.action } }) ∧
      exec (.restart (.ok ())) s =
        .next (m.pushReply (.done s.emergency.length s.priority.length s.general.length))

/-- R181, R182: a frame of unknown kind is answered REJECT UNKNOWN-KIND with its kind octet, and a request body of wrong length is
answered REJECT BAD-LENGTH with field 0 and tag 0, whatever the kind; nothing else happens. -/
def Obligations.UnknownKindAndBadLength : Prop :=
  ∀ s : State,
    (∀ kind body, RequestKind.ofCode kind = none → s.Takes (.unknownKind kind body) →
      exec (.unknownKind kind body) s = .next (s.afterTaking.pushReply (.reject none .unknownKind kind 0))) ∧
    (∀ (f : Frame) (k : RequestKind), RequestKind.ofCode f.kind = some k → k.bodyFits f.body = false → s.TakesFrame f →
      exec (commandOfFrame f) s = .next (s.afterTaking.pushReply (.reject (some k) .badLength 0 0)))

/-- R198 (with R1, R5, R21, R113, R115, R148, R170, R184): power-on reset leaves every block at its power-on values, whatever the
state, the eight rows of both level tables among them. The end of the reset, of any part held in reset, samples the straps, starts
local time at 0, leaves the receiver watching for a start edge in HUNT, THOLD deasserted and the first boundary due at 1000, and
changes nothing else. The commands that wait, the count of choices, the signal fields and the value 0 of the gap timer at power-on are the model's own
(log 1, log 3, log 8, log 9). -/
def Obligations.PowerOnReset : Prop :=
  ∀ (s : State) (b1 b0 : Bool),
    ∃ m : State, exec .powerOnReset s = .next m ∧
      m = { m with pending := s.pending, choices := s.choices } ∧ m.inReset = true ∧ m.localTime = 0 ∧
      (∀ t, m.sector t =
        { state := .disabled, capacity := 0, generalGuard := 0, priorityGuard := 0, neighbours := [], weight := 4, depth := 32,
          tokens := 0, pressure := 0, level := 0, votes := ⟨.hold, .hold, .hold⟩ }) ∧
      (∀ t n, m.slot t n = .closed) ∧
      (∀ i, m.screenEntry i =
        { content := { enabled := false, matchValue := 0, mask := 0, action := .assign .general true }, hits := 0 }) ∧
      m.screening.hold = none ∧ m.emergency = [] ∧ m.priority = [] ∧ m.general = [] ∧ m.repeatTable = [] ∧
      m.emergencyFull = 0 ∧ m.serviceDeferred = false ∧ m.passDeferred = false ∧ m.retrySignal = false ∧ m.passSignal = false ∧ m.guardLock = false ∧
      m.governor.activePeriod = 1000 ∧ m.governor.stagedPeriod = 1000 ∧ m.governor.nextBoundary = 1000 ∧
      m.governor.surge = none ∧ m.governor.activeTable = m.governor.stagedTable ∧
      [(0 : LevelId), 1, 2, 3, 4, 5, 6, 7].map m.governor.activeTable.get =
        [{ threshold := 0, refill := 32, barPct := 0, barTime := 4, base := 250 },
         { threshold := 512, refill := 24, barPct := 10, barTime := 8, base := 500 },
         { threshold := 1024, refill := 16, barPct := 20, barTime := 16, base := 750 },
         { threshold := 1536, refill := 12, barPct := 30, barTime := 32, base := 1000 },
         { threshold := 2048, refill := 8, barPct := 50, barTime := 64, base := 1500 },
         { threshold := 2560, refill := 4, barPct := 70, barTime := 128, base := 2000 },
         { threshold := 3072, refill := 2, barPct := 85, barTime := 256, base := 3000 },
         { threshold := 3584, refill := 0, barPct := 95, barTime := 512, base := 4000 }] ∧
      m.settings = { generalWait := 8, priorityWait := 15, emergencyWait := 60, escalationTime := 5, vacateTimeout := 2000,
                     repeatWindow := 60, jitter := 500, policy := .protect } ∧
      m.link.actionLane = [] ∧ m.link.statusLane = [] ∧ m.link.requestQueue = [] ∧ m.link.replyQueue = [] ∧
      m.link.sending = none ∧ m.link.receiver = .hunt ∧ m.link.lineLow = false ∧ m.link.gapTicks = 0 ∧ m.link.thold = false ∧ m.link.statusLost = 0 ∧
      m.link.gapCount = 0 ∧ m.link.checkCount = 0 ∧ m.link.overrunCount = 0 ∧ m.link.noiseRun = 0 ∧ m.rhold = false ∧
      exec (.resetEnd b1 b0) m = .next { m with
        inReset := false
        link := { m.link with rate :=
          if b1 then (if b0 then .r3686400 else .r1843200) else (if b0 then .r921600 else .r460800) } } ∧
      (s.inReset = true → exec (.resetEnd b1 b0) s = .next { s with
        inReset := false
        localTime := 0
        link := { s.link with
          rate := if b1 then (if b0 then .r3686400 else .r1843200) else (if b0 then .r921600 else .r460800)
          receiver := .hunt, lineLow := false, thold := false }
        governor := { s.governor with nextBoundary := 1000 } })

/-! ## The link port's events -/

/-- R171, R175 to R179: what the receiver does. After a stop bit that read low nothing is taken until the line has returned high. A
character whose start bit reads high gives nothing; otherwise its octet goes to the frame receiver, as do a bad length octet and the
second check octet. A gap past 1 ms and every lost frame return the receiver to HUNT and raise one counter; the third loss of a run
offers a NOISY report. What the three commands of the receiver carry is a deduction of the model (log 12, log 18). -/
def Obligations.ReceiverEvents : Prop :=
  ∀ s : State, s.inReset = false →
    let with_ := fun (u : State) (r : Receiver) => Host.Outcome.next (φ := Fault) (ρ := Refusal)
      { u with link := { u.link with receiver := r, gapTicks := 0 } }
    let level := fun x : CentreSamples => 2 ≤ [x.s7, x.s8, x.s9].count true
    let raised := fun n : Nat => if n < 65535 then n + 1 else n
    let lost := fun (u : State) (gap check : Nat) =>
      let k : LinkPort := { u.link with receiver := .hunt, gapTicks := 0, gapCount := gap, checkCount := check }
      Host.Outcome.next (φ := Fault) (ρ := Refusal) (
        if u.link.noiseRun < 2 then { u with link := { k with noiseRun := u.link.noiseRun + 1 } }
        else if u.link.noiseRun = 2 then
          ({ u with link := { k with noiseRun := 3 } } : State).offerStatus (.noisy gap check u.link.overrunCount)
        else { u with link := k })
    let lostCheck := fun u : State => lost u u.link.gapCount (raised u.link.checkCount)
    let watches := fun c : CharSamples => s.link.lineLow = false ∨ c.lineReturned = true
    let waiting := fun low : Bool => ({ s with link := { s.link with lineLow := low } } : State)
    (∀ c, ¬watches c → exec (.octetDelivered c) s = .next s) ∧
    (∀ c, watches c → level c.start → exec (.octetDelivered c) s = .next (waiting false)) ∧
    (∀ (c : CharSamples) (o : Octet) (low : Bool), watches c → ¬level c.start → (low = true ↔ ¬level c.stop) →
      (∀ (i : Nat) (x : CentreSamples), [c.d0, c.d1, c.d2, c.d3, c.d4, c.d5, c.d6, c.d7][i]? = some x →
        (o.getLsbD i = true ↔ level x)) →
      let u := waiting low
      (s.link.receiver = .hunt → exec (.octetDelivered c) s = if o = 0x5A then with_ u .length else .next u) ∧
      (s.link.receiver = .length → exec (.octetDelivered c) s =
        if 1 ≤ o.toNat ∧ o.toNat ≤ 248 then with_ u (.body o.toNat []) else lostCheck u) ∧
      (∀ n got, s.link.receiver = .body n got → got.length < n → exec (.octetDelivered c) s =
        if got.length + 1 = n then with_ u (.check (got ++ [o]) none) else with_ u (.body n (got ++ [o]))) ∧
      (∀ got, s.link.receiver = .check got none → exec (.octetDelivered c) s = with_ u (.check got (some o))) ∧
      (∀ got hi, s.link.receiver = .check got (some hi) → exec (.octetDelivered c) s = exec (.goodFrame o) u)) ∧
    (∀ o : Octet, s.link.receiver = .length → o = 0 ∨ 249 ≤ o.toNat → exec (.badLengthOctet o) s = lostCheck s) ∧
    (∀ kind body hi lo, s.link.receiver = .check (kind :: body) (some hi) →
      exec (.goodFrame lo) s =
        if crc (lengthOctet (kind :: body) :: kind :: body) = join2 hi lo then
          .next (({ s with link := { s.link with receiver := .hunt, gapTicks := 0 } } : State).arrive ⟨kind, body⟩)
        else lostCheck s) ∧
    (s.link.receiver ≠ .hunt → exec .gapTimeout s = lost s (raised s.link.gapCount) s.link.checkCount)

/-- R158, R166, R167, R172, R183: the transmitter. Two samples take a THOLD level; at a frame boundary with THOLD deasserted the head of
the action lane, else of the reply queue, else of the status lane begins its frame, built at that instant. That the boundary is a
command of its own, and that THOLD commands carry a number of samples, are the model's (log 10, log 11). -/
def Obligations.TransmitterChoosesAtABoundary : Prop :=
  ∀ s : State, s.inReset = false →
    let began := fun (u : State) (src : Source) (kind : Octet) (body : List Octet) =>
      ({ u with link := { u.link with sending := some { source := src, octets := wireFrame kind body, elapsed := 0 } } } : State)
    let chosen := fun u : State =>
      match u.link.actionLane with
      | a :: _ => began u .action a.kind a.body
      | [] =>
        match u.link.replyQueue with
        | r :: _ => began u .reply r.kind r.body
        | [] =>
          match u.link.statusLane with
          | x :: _ => began u .status x.kind x.body
          | [] => u
    let tholdIs := fun b : Bool => ({ s with link := { s.link with thold := b } } : State)
    (s.link.sending = none → s.link.thold = false → exec .frameBoundary s = .next (chosen s)) ∧
    (s.link.sending ≠ none ∨ s.link.thold = true → exec .frameBoundary s = .next s) ∧
    (∀ n, exec (.tholdAsserted n) s = .next (if 2 ≤ n then tholdIs true else s)) ∧
    (∀ n, 2 ≤ n → s.link.thold = true → exec (.tholdDeasserted n) s =
      .next (if s.link.sending = none then chosen (tholdIs false) else tholdIs false)) ∧
    (∀ n, n < 2 ∨ s.link.thold = false → exec (.tholdDeasserted n) s = .next s)

/-- R158, R161: the end of a frame. Its report or reply leaves the head of its lane or queue. An action report leaving signals that room
has appeared: to the arbiter where it finds a mark set, and to every expiry pending for room, which is delivered again. The signal
stands in fields of the model until it is answered, and no second action report leaves before that (log 8); the next frame is chosen
by the command FRAME_BOUNDARY (log 10). -/
def Obligations.FrameEndLeavesItsLane : Prop :=
  ∀ (s : State) (d : Sending), s.inReset = false → s.link.sending = some d →
    let owed := s.retrySignal = true ∨ s.passSignal = true ∨
      (∃ e ∈ s.emergency ++ s.priority ++ s.general, e.watch = .signalled) ∨
      ∃ t n c v, s.slot t n = .vacating c v ∧ v.watch = .signalled
    let again := fun w : Watch => if w = .watched then Watch.watched else Watch.signalled
    let signalled := List.map (fun e : Waiting => { e with watch := again e.watch })
    (d.source = .reply →
      exec .frameEnd s = .next { s with link := { s.link with sending := none, replyQueue := s.link.replyQueue.tail } }) ∧
    (d.source = .status →
      exec .frameEnd s = .next { s with link := { s.link with sending := none, statusLane := s.link.statusLane.tail } }) ∧
    (d.source = .action → owed → exec .frameEnd s = .next s) ∧
    (d.source = .action → ¬owed →
      ∃ m : State, exec .frameEnd s = .next m ∧
        m = { s with
          link := { s.link with sending := none, actionLane := s.link.actionLane.tail }
          retrySignal := s.serviceDeferred, passSignal := s.passDeferred
          emergency := signalled s.emergency, priority := signalled s.priority, general := signalled s.general
          slots := m.slots } ∧
        (∀ t n, m.slot t n = match s.slot t n with
          | .vacating c v => .vacating c { v with watch := again v.watch }
          | x => x))

/-! ## The sweep -/

/-- R84, R85: the expiry of a waiting deadline that is reached, or pending and delivered again. With an action place the entry leaves
with its earmark dropped and an EXPIRED report is placed, its hint not recorded; without one the expiry stays pending for room. -/
def Obligations.WaitingExpiry : Prop :=
  ∀ (s : State) (c : CallClass) (older newer : List Waiting) (e : Waiting), s.inReset = false → s.RecordsPaired →
    s.waiting c = older ++ e :: newer →
    e.watch = .signalled ∨ (e.watch = .watched ∧ 0 ≤ signedDiff s.localTime e.deadline) →
    let removed := (s.setWaiting c (older ++ newer)).placeAction
      (.expired e.tag c .timeout (s.localTime - e.arrival) (s.retryHint e.key e.sector))
    (48 ≤ s.link.actionLane.length →
      exec (.waitingExpiry e.tag) s = .next (s.setWaiting c (older ++ { e with watch := .pendingRoom } :: newer))) ∧
    (s.link.actionLane.length < 48 →
      (e.earmark = none → exec (.waitingExpiry e.tag) s = .next removed) ∧
      (∀ t n d v, e.earmark = some (t, n) → s.slot t n = .vacating d v →
        exec (.waitingExpiry e.tag) s = .next (removed.setSlot t n (.vacating d { v with beneficiary := none }))))

/-- R109: an escalation point that is reached sets the entry's escalated flag, needs no action place, and is followed by a pass when the
entry holds no earmark. -/
def Obligations.Escalation : Prop :=
  ∀ (s : State) (older newer : List Waiting) (e : Waiting) (p : Time), s.inReset = false → s.RecordsPaired →
    s.emergency = older ++ e :: newer → e.escalationPoint = some p → 0 ≤ signedDiff s.localTime p →
    let m := s.setWaiting .emergency (older ++ { e with escalated := true, escalationPoint := none } :: newer)
    (e.earmark = none → exec (.escalation e.tag) s = .next m.pass) ∧
    (e.earmark ≠ none → exec (.escalation e.tag) s = .next m)

/-- R105, R106, R107: the expiry of a vacate deadline that is reached, or pending and delivered again. At attempt 1 the order is
renewed; at attempt 2 the slot becomes STUCK, and a beneficiary loses its earmark and a pass follows; without an action place the
expiry stays pending. -/
def Obligations.VacateExpiry : Prop :=
  ∀ (s : State) (t : SectorId) (n : SlotId) (c : Call) (v : Vacate), s.inReset = false → s.RecordsPaired →
    s.slot t n = .vacating c v →
    v.watch = .signalled ∨ (v.watch = .watched ∧ 0 ≤ signedDiff s.localTime v.deadline) →
    let stuck := (s.setSlot t n (.stuck c)).placeAction (.stuck c.tag (t, n))
    (48 ≤ s.link.actionLane.length →
      exec (.vacateExpiry t n) s = .next (s.setSlot t n (.vacating c { v with watch := .pendingRoom }))) ∧
    (s.link.actionLane.length < 48 →
      (v.attempt = .first → exec (.vacateExpiry t n) s =
        .next ((s.setSlot t n (.vacating c
          { attempt := .second, deadline := after s.localTime s.settings.vacateTimeout, watch := .watched,
            beneficiary := v.beneficiary })).placeAction (.preempt c.tag (t, n) .second))) ∧
      (v.attempt = .second → v.beneficiary = none → exec (.vacateExpiry t n) s = .next stuck) ∧
      (∀ older e newer, v.attempt = .second → v.beneficiary = some e.tag → s.emergency = older ++ e :: newer →
        exec (.vacateExpiry t n) s =
          .next (stuck.setWaiting .emergency (older ++ { e with earmark := none } :: newer)).pass))

/-! ## What every step keeps -/

/-- The state right after reset meets every law below. -/
def Obligations.ResetMeetsTheLaws : Prop :=
  State.reset.InBounds ∧ State.reset.LanesLawful ∧ State.reset.InRange ∧ State.reset.SlotsLawful ∧
    State.reset.RecordsPaired ∧ State.reset.ScreenLawful ∧ State.reset.ResetHeld ∧ State.reset.OnTime

/-- Queues, lanes, lists, tables and counters hold no more than the spec gives them, after every step; and the frame in transmission
stays the frame of the head of its lane or queue, octet for octet, so that a report in transmission is not replaced, and at most one
LEVEL for each sector and one SURGE stay unsent. -/
def Obligations.StepKeepsTheBounds : Prop :=
  ∀ s t : State, step s = .next t → (s.InBounds → t.InBounds) ∧ (s.LanesLawful → t.LanesLawful)

/-- Configuration and governor fields stay in their ranges, and an open surge window's floor stays under every level, after every
step. -/
def Obligations.StepKeepsTheRanges : Prop :=
  ∀ s t : State, s.InRange → step s = .next t → t.InRange

/-- The laws of FREE and CLOSED slots, of the sector states and of slots with a beneficiary hold after every step. -/
def Obligations.StepKeepsTheSlots : Prop :=
  ∀ s t : State, s.SlotsLawful → step s = .next t → t.SlotsLawful

/-- Tags stay non-zero and held once, lists hold their own class, and earmarks pair entries and VACATING slots from both sides, after
every step. -/
def Obligations.StepKeepsTheRecords : Prop :=
  ∀ s t : State, s.RecordsPaired → step s = .next t → t.RecordsPaired

/-- The screening table's laws hold after every step, and while the guard lock is set the step keeps it, but by power-on reset: no guard
decreases; no enabled entry that scans see as ASSIGN EMERGENCY changes for them; an enabled entry whose stored action is ASSIGN EMERGENCY
stays enabled, keeps its mask and match value, goes on assigning EMERGENCY and is not newly held. Its preemptible flag may change, as
RESTART may revert that of a held one (R36). -/
def Obligations.StepKeepsScreeningAndTheGuardLock : Prop :=
  ∀ s t : State, s.ScreenLawful → step s = .next t →
    t.ScreenLawful ∧
    (s.guardLock = true → s.pending.head? ≠ some .powerOnReset →
      t.guardLock = true ∧
      (∀ u, (s.sector u).generalGuard ≤ (t.sector u).generalGuard ∧ (s.sector u).priorityGuard ≤ (t.sector u).priorityGuard) ∧
      (∀ i, (s.scanned i).enabled = true → (s.scanned i).action.assignsEmergency = true → t.scanned i = s.scanned i) ∧
      (∀ i, (s.screenEntry i).content.enabled = true → (s.screenEntry i).content.action.assignsEmergency = true →
        (t.screenEntry i).content.enabled = true ∧
        (t.screenEntry i).content.mask = (s.screenEntry i).content.mask ∧
        (t.screenEntry i).content.matchValue = (s.screenEntry i).content.matchValue ∧
        (t.screenEntry i).content.action.assignsEmergency = true ∧
        (s.heldCopy i = none → t.heldCopy i = none)))

/-- A part held in reset stays at the power-on values, and a timed one is never late: local time does not pass a boundary or a surge
point, and no deadline that the sweep watches is more than 10 ms past, after every step. That the part goes on by itself when no
command waits is the model's choice (log 2), and so are, of the power-on values that a held part stands at, the rate 460800 (log 7), the
clear signal fields (log 8) and the gap timer's 0 (log 9). -/
def Obligations.StepKeepsTheTime : Prop :=
  ∀ s t : State, s.InRange → s.ResetHeld → s.OnTime → step s = .next t → t.ResetHeld ∧ t.OnTime
end

