-- ==== Sys2Proof/Laws/PerInstr.lean ====
section
/-! SUPPORT. A statement about every command as syntax, made constructor by constructor: the frame of a well-formed command fits a
frame of the link, whose length octet is at most 248 (R173). -/

namespace Sys2Proof

@[simp] theorem Machine.octets2_length (x : BitVec 16) : (Machine.octets2 x).length = 2 := rfl

@[simp] theorem Machine.octets3_length (x : BitVec 24) : (Machine.octets3 x).length = 3 := rfl

@[simp] theorem Machine.octets4_length (x : BitVec 32) : (Machine.octets4 x).length = 4 := rfl

/-- The frame of a well-formed command has a body of at most 247 octets. -/
def Laws.FrameFits.Statement (i : Instr) : Prop := WellFormed i = true → ∀ f, frameOf i = some f → f.body.length ≤ 247

/-- A request body fits when the fields of its kind do. -/
theorem Laws.bodyFits {α : Type} (k : RequestKind) (fields : α → Bool) (enc : α → List Octet) (b : Body α)
    (short : ∀ a, fields a = true → (enc a).length ≤ 247) (h : b.wellFormed k fields = true) : (b.octets enc).length ≤ 247 := by
  cases b with
  | ok a => exact short a h
  | badLength l =>
    have : l.length ≤ 247 ∧ (!k.bodyFits l) = true := by simpa [Body.wellFormed] using h
    exact this.1

/-- The octets of the pairs of an AUDIT: five for each pair. -/
theorem Laws.auditPairOctets_length (ps : List AuditPair) : (ps.flatMap auditPairOctets).length = 5 * ps.length := by
  induction ps with
  | nil => rfl
  | cons p rest ih =>
    simp only [List.flatMap_cons, List.length_append, ih, List.length_cons]
    simp [auditPairOctets]
    omega

/-- A command with no frame. -/
theorem Laws.noFrame {i : Instr} (h : frameOf i = none) : Laws.FrameFits.Statement i := by
  intro _ f hf
  simp [h] at hf

theorem Laws.FrameFits.admitCall (b : Body AdmitFields) : Laws.FrameFits.Statement (.admitCall b) := by
  intro h f hf
  obtain rfl := Option.some.inj hf
  exact Laws.bodyFits _ _ _ b (fun _ _ => by simp) h

theorem Laws.FrameFits.release (b : Body Tag) : Laws.FrameFits.Statement (.release b) := by
  intro h f hf
  obtain rfl := Option.some.inj hf
  exact Laws.bodyFits _ _ _ b (fun _ _ => by simp) h

theorem Laws.FrameFits.cancel (b : Body Tag) : Laws.FrameFits.Statement (.cancel b) := by
  intro h f hf
  obtain rfl := Option.some.inj hf
  exact Laws.bodyFits _ _ _ b (fun _ _ => by simp) h

theorem Laws.FrameFits.sectorSet (b : Body SectorSetFields) : Laws.FrameFits.Statement (.sectorSet b) := by
  intro h f hf
  obtain rfl := Option.some.inj hf
  exact Laws.bodyFits _ _ _ b (fun _ _ => by simp) h

theorem Laws.FrameFits.sectorDrain (b : Body Octet) : Laws.FrameFits.Statement (.sectorDrain b) := by
  intro h f hf
  obtain rfl := Option.some.inj hf
  exact Laws.bodyFits _ _ _ b (fun _ _ => by simp) h

theorem Laws.FrameFits.sectorResume (b : Body Octet) : Laws.FrameFits.Statement (.sectorResume b) := by
  intro h f hf
  obtain rfl := Option.some.inj hf
  exact Laws.bodyFits _ _ _ b (fun _ _ => by simp) h

theorem Laws.FrameFits.sectorDisable (b : Body Octet) : Laws.FrameFits.Statement (.sectorDisable b) := by
  intro h f hf
  obtain rfl := Option.some.inj hf
  exact Laws.bodyFits _ _ _ b (fun _ _ => by simp) h

theorem Laws.FrameFits.screenSet (b : Body ScreenSetFields) : Laws.FrameFits.Statement (.screenSet b) := by
  intro h f hf
  obtain rfl := Option.some.inj hf
  exact Laws.bodyFits _ _ _ b (fun _ _ => by simp) h

theorem Laws.FrameFits.screenHold (b : Body Octet) : Laws.FrameFits.Statement (.screenHold b) := by
  intro h f hf
  obtain rfl := Option.some.inj hf
  exact Laws.bodyFits _ _ _ b (fun _ _ => by simp) h

theorem Laws.FrameFits.screenFree (b : Body Unit) : Laws.FrameFits.Statement (.screenFree b) := by
  intro h f hf
  obtain rfl := Option.some.inj hf
  exact Laws.bodyFits _ _ _ b (fun _ _ => by simp) h

theorem Laws.FrameFits.levelSet (b : Body LevelSetFields) : Laws.FrameFits.Statement (.levelSet b) := by
  intro h f hf
  obtain rfl := Option.some.inj hf
  exact Laws.bodyFits _ _ _ b (fun _ _ => by simp) h

theorem Laws.FrameFits.timerSet (b : Body TimerSetFields) : Laws.FrameFits.Statement (.timerSet b) := by
  intro h f hf
  obtain rfl := Option.some.inj hf
  exact Laws.bodyFits _ _ _ b (fun _ _ => by simp) h

theorem Laws.FrameFits.surgeOpen (b : Body SurgeOpenFields) : Laws.FrameFits.Statement (.surgeOpen b) := by
  intro h f hf
  obtain rfl := Option.some.inj hf
  exact Laws.bodyFits _ _ _ b (fun _ _ => by simp) h

theorem Laws.FrameFits.surgeExtend (b : Body (BitVec 16)) : Laws.FrameFits.Statement (.surgeExtend b) := by
  intro h f hf
  obtain rfl := Option.some.inj hf
  exact Laws.bodyFits _ _ _ b (fun _ _ => by simp) h

theorem Laws.FrameFits.surgeClose (b : Body Unit) : Laws.FrameFits.Statement (.surgeClose b) := by
  intro h f hf
  obtain rfl := Option.some.inj hf
  exact Laws.bodyFits _ _ _ b (fun _ _ => by simp) h

theorem Laws.FrameFits.guardLock (b : Body Unit) : Laws.FrameFits.Statement (.guardLock b) := by
  intro h f hf
  obtain rfl := Option.some.inj hf
  exact Laws.bodyFits _ _ _ b (fun _ _ => by simp) h

theorem Laws.FrameFits.audit (b : Body AuditFields) : Laws.FrameFits.Statement (.audit b) := by
  intro h f hf
  obtain rfl := Option.some.inj hf
  refine Laws.bodyFits _ _ _ b (fun a ha => ?_) h
  have : 1 ≤ a.pairs.length ∧ a.pairs.length ≤ 12 := by simpa using ha
  simp only [List.length_append, Laws.auditPairOctets_length]
  simp
  omega

theorem Laws.FrameFits.queryStatus (b : Body Unit) : Laws.FrameFits.Statement (.queryStatus b) := by
  intro h f hf
  obtain rfl := Option.some.inj hf
  exact Laws.bodyFits _ _ _ b (fun _ _ => by simp) h

theorem Laws.FrameFits.querySector (b : Body Octet) : Laws.FrameFits.Statement (.querySector b) := by
  intro h f hf
  obtain rfl := Option.some.inj hf
  exact Laws.bodyFits _ _ _ b (fun _ _ => by simp) h

theorem Laws.FrameFits.querySlots (b : Body QuerySlotsFields) : Laws.FrameFits.Statement (.querySlots b) := by
  intro h f hf
  obtain rfl := Option.some.inj hf
  exact Laws.bodyFits _ _ _ b (fun _ _ => by simp) h

theorem Laws.FrameFits.queryList (b : Body QueryListFields) : Laws.FrameFits.Statement (.queryList b) := by
  intro h f hf
  obtain rfl := Option.some.inj hf
  exact Laws.bodyFits _ _ _ b (fun _ _ => by simp) h

theorem Laws.FrameFits.queryScreen (b : Body Octet) : Laws.FrameFits.Statement (.queryScreen b) := by
  intro h f hf
  obtain rfl := Option.some.inj hf
  exact Laws.bodyFits _ _ _ b (fun _ _ => by simp) h

theorem Laws.FrameFits.queryLevels (b : Body Unit) : Laws.FrameFits.Statement (.queryLevels b) := by
  intro h f hf
  obtain rfl := Option.some.inj hf
  exact Laws.bodyFits _ _ _ b (fun _ _ => by simp) h

theorem Laws.FrameFits.restart (b : Body Unit) : Laws.FrameFits.Statement (.restart b) := by
  intro h f hf
  obtain rfl := Option.some.inj hf
  exact Laws.bodyFits _ _ _ b (fun _ _ => by simp) h

theorem Laws.FrameFits.unknownKind (kind : Octet) (body : List Octet) : Laws.FrameFits.Statement (.unknownKind kind body) := by
  intro h f hf
  obtain rfl := Option.some.inj hf
  have : (RequestKind.ofCode kind).isNone = true ∧ body.length ≤ 247 := by simpa [WellFormed] using h
  exact this.2

theorem Laws.FrameFits.goodFrame (o : Octet) : Laws.FrameFits.Statement (.goodFrame o) := Laws.noFrame rfl

theorem Laws.FrameFits.badLengthOctet (o : Octet) : Laws.FrameFits.Statement (.badLengthOctet o) := Laws.noFrame rfl

theorem Laws.FrameFits.gapTimeout : Laws.FrameFits.Statement .gapTimeout := Laws.noFrame rfl

theorem Laws.FrameFits.tholdAsserted (n : Nat) : Laws.FrameFits.Statement (.tholdAsserted n) := Laws.noFrame rfl

theorem Laws.FrameFits.tholdDeasserted (n : Nat) : Laws.FrameFits.Statement (.tholdDeasserted n) := Laws.noFrame rfl

theorem Laws.FrameFits.frameBoundary : Laws.FrameFits.Statement .frameBoundary := Laws.noFrame rfl

theorem Laws.FrameFits.frameEnd : Laws.FrameFits.Statement .frameEnd := Laws.noFrame rfl

theorem Laws.FrameFits.deferredServiceRetry : Laws.FrameFits.Statement .deferredServiceRetry := Laws.noFrame rfl

theorem Laws.FrameFits.deferredPass : Laws.FrameFits.Statement .deferredPass := Laws.noFrame rfl

theorem Laws.FrameFits.waitingExpiry (tag : Tag) : Laws.FrameFits.Statement (.waitingExpiry tag) := Laws.noFrame rfl

theorem Laws.FrameFits.escalation (tag : Tag) : Laws.FrameFits.Statement (.escalation tag) := Laws.noFrame rfl

theorem Laws.FrameFits.vacateExpiry (t : SectorId) (n : SlotId) : Laws.FrameFits.Statement (.vacateExpiry t n) := Laws.noFrame rfl

theorem Laws.FrameFits.epochBoundary : Laws.FrameFits.Statement .epochBoundary := Laws.noFrame rfl

theorem Laws.FrameFits.closingPoint : Laws.FrameFits.Statement .closingPoint := Laws.noFrame rfl

theorem Laws.FrameFits.surgeExpiry : Laws.FrameFits.Statement .surgeExpiry := Laws.noFrame rfl

theorem Laws.FrameFits.powerOnReset : Laws.FrameFits.Statement .powerOnReset := Laws.noFrame rfl

theorem Laws.FrameFits.resetEnd (b1 b0 : Bool) : Laws.FrameFits.Statement (.resetEnd b1 b0) := Laws.noFrame rfl

theorem Laws.FrameFits.octetDelivered (c : CharSamples) : Laws.FrameFits.Statement (.octetDelivered c) := Laws.noFrame rfl

end Sys2Proof
end

