-- ==== Sys2Proof/Laws/Tables.lean ====
section
/-! SUPPORT. What the operations of a table do: a record read after a write, in a table of equal records, in a mapped table; two
tables with equal records are equal. -/

namespace Sys2Proof.Machine

variable {α : Type} {n : Nat}

theorem Table.ext_get {t u : Table α n} (h : ∀ i, t.get i = u.get i) : t = u := by
  obtain ⟨l, hl⟩ := t
  obtain ⟨m, hm⟩ := u
  have : l = m := by
    apply List.ext_getElem (by omega)
    intro i h₁ h₂
    exact h ⟨i, by omega⟩
  subst this
  rfl

@[simp] theorem Table.get_set_same (t : Table α n) (i : Fin n) (x : α) : (t.set i x).get i = x := by
  simp [Table.get, Table.set]

theorem Table.get_set_ne (t : Table α n) {i j : Fin n} (h : i ≠ j) (x : α) : (t.set i x).get j = t.get j := by
  have : i.val ≠ j.val := fun e => h (Fin.ext e)
  simp [Table.get, Table.set, this]

/-- Everything that reading after a write can answer. -/
theorem Table.get_set (t : Table α n) (i j : Fin n) (x : α) : (t.set i x).get j = if i = j then x else t.get j := by
  by_cases h : i = j
  · subst h; simp
  · simp [h, Table.get_set_ne t h]

@[simp] theorem Table.get_replicate (x : α) (i : Fin n) : (Table.replicate n x).get i = x := by
  simp [Table.get, Table.replicate]

@[simp] theorem Table.get_map (t : Table α n) (f : α → α) (i : Fin n) : (t.map f).get i = f (t.get i) := by
  simp [Table.get, Table.map]

@[simp] theorem Table.set_get_self (t : Table α n) (i : Fin n) : t.set i (t.get i) = t := by
  apply Table.ext_get
  intro j
  by_cases h : i = j
  · subst h; simp
  · rw [Table.get_set_ne t h]

@[simp] theorem Table.set_set (t : Table α n) (i : Fin n) (x y : α) : (t.set i x).set i y = t.set i y := by
  apply Table.ext_get
  intro j
  by_cases h : i = j
  · subst h; simp
  · rw [Table.get_set_ne _ h, Table.get_set_ne _ h, Table.get_set_ne _ h]

end Sys2Proof.Machine
end

