-- ==== Sys2Proof/Laws/State.lean ====
section
/-! SUPPORT. One lemma for each field of the state and each named update of it, true by rfl, and reading a sector or slot record after
a write: no later proof unfolds a record update. -/

namespace Sys2Proof.Machine

/-! ### setSector -/

@[simp] theorem State.setSector_localTime (s : State) (t : SectorId) (r : Sector) : (s.setSector t r).localTime = s.localTime := rfl
@[simp] theorem State.setSector_inReset (s : State) (t : SectorId) (r : Sector) : (s.setSector t r).inReset = s.inReset := rfl
@[simp] theorem State.setSector_link (s : State) (t : SectorId) (r : Sector) : (s.setSector t r).link = s.link := rfl
@[simp] theorem State.setSector_screening (s : State) (t : SectorId) (r : Sector) : (s.setSector t r).screening = s.screening := rfl
@[simp] theorem State.setSector_sectors (s : State) (t : SectorId) (r : Sector) :
    (s.setSector t r).sectors = s.sectors.set t r := rfl
@[simp] theorem State.setSector_slots (s : State) (t : SectorId) (r : Sector) : (s.setSector t r).slots = s.slots := rfl
@[simp] theorem State.setSector_emergency (s : State) (t : SectorId) (r : Sector) : (s.setSector t r).emergency = s.emergency := rfl
@[simp] theorem State.setSector_priority (s : State) (t : SectorId) (r : Sector) : (s.setSector t r).priority = s.priority := rfl
@[simp] theorem State.setSector_general (s : State) (t : SectorId) (r : Sector) : (s.setSector t r).general = s.general := rfl
@[simp] theorem State.setSector_emergencyFull (s : State) (t : SectorId) (r : Sector) : (s.setSector t r).emergencyFull = s.emergencyFull := rfl
@[simp] theorem State.setSector_serviceDeferred (s : State) (t : SectorId) (r : Sector) : (s.setSector t r).serviceDeferred = s.serviceDeferred := rfl
@[simp] theorem State.setSector_passDeferred (s : State) (t : SectorId) (r : Sector) : (s.setSector t r).passDeferred = s.passDeferred := rfl
@[simp] theorem State.setSector_retrySignal (s : State) (t : SectorId) (r : Sector) : (s.setSector t r).retrySignal = s.retrySignal := rfl
@[simp] theorem State.setSector_passSignal (s : State) (t : SectorId) (r : Sector) : (s.setSector t r).passSignal = s.passSignal := rfl
@[simp] theorem State.setSector_governor (s : State) (t : SectorId) (r : Sector) : (s.setSector t r).governor = s.governor := rfl
@[simp] theorem State.setSector_repeatTable (s : State) (t : SectorId) (r : Sector) : (s.setSector t r).repeatTable = s.repeatTable := rfl
@[simp] theorem State.setSector_settings (s : State) (t : SectorId) (r : Sector) : (s.setSector t r).settings = s.settings := rfl
@[simp] theorem State.setSector_guardLock (s : State) (t : SectorId) (r : Sector) : (s.setSector t r).guardLock = s.guardLock := rfl
@[simp] theorem State.setSector_choices (s : State) (t : SectorId) (r : Sector) : (s.setSector t r).choices = s.choices := rfl
@[simp] theorem State.setSector_pending (s : State) (t : SectorId) (r : Sector) : (s.setSector t r).pending = s.pending := rfl

/-! ### setSlot -/

@[simp] theorem State.setSlot_localTime (s : State) (t : SectorId) (n : SlotId) (x : Slot) : (s.setSlot t n x).localTime = s.localTime := rfl
@[simp] theorem State.setSlot_inReset (s : State) (t : SectorId) (n : SlotId) (x : Slot) : (s.setSlot t n x).inReset = s.inReset := rfl
@[simp] theorem State.setSlot_link (s : State) (t : SectorId) (n : SlotId) (x : Slot) : (s.setSlot t n x).link = s.link := rfl
@[simp] theorem State.setSlot_screening (s : State) (t : SectorId) (n : SlotId) (x : Slot) : (s.setSlot t n x).screening = s.screening := rfl
@[simp] theorem State.setSlot_sectors (s : State) (t : SectorId) (n : SlotId) (x : Slot) : (s.setSlot t n x).sectors = s.sectors := rfl
@[simp] theorem State.setSlot_slots (s : State) (t : SectorId) (n : SlotId) (x : Slot) :
    (s.setSlot t n x).slots = s.slots.set t ((s.slots.get t).set n x) := rfl
@[simp] theorem State.setSlot_emergency (s : State) (t : SectorId) (n : SlotId) (x : Slot) : (s.setSlot t n x).emergency = s.emergency := rfl
@[simp] theorem State.setSlot_priority (s : State) (t : SectorId) (n : SlotId) (x : Slot) : (s.setSlot t n x).priority = s.priority := rfl
@[simp] theorem State.setSlot_general (s : State) (t : SectorId) (n : SlotId) (x : Slot) : (s.setSlot t n x).general = s.general := rfl
@[simp] theorem State.setSlot_emergencyFull (s : State) (t : SectorId) (n : SlotId) (x : Slot) : (s.setSlot t n x).emergencyFull = s.emergencyFull := rfl
@[simp] theorem State.setSlot_serviceDeferred (s : State) (t : SectorId) (n : SlotId) (x : Slot) : (s.setSlot t n x).serviceDeferred = s.serviceDeferred := rfl
@[simp] theorem State.setSlot_passDeferred (s : State) (t : SectorId) (n : SlotId) (x : Slot) : (s.setSlot t n x).passDeferred = s.passDeferred := rfl
@[simp] theorem State.setSlot_retrySignal (s : State) (t : SectorId) (n : SlotId) (x : Slot) : (s.setSlot t n x).retrySignal = s.retrySignal := rfl
@[simp] theorem State.setSlot_passSignal (s : State) (t : SectorId) (n : SlotId) (x : Slot) : (s.setSlot t n x).passSignal = s.passSignal := rfl
@[simp] theorem State.setSlot_governor (s : State) (t : SectorId) (n : SlotId) (x : Slot) : (s.setSlot t n x).governor = s.governor := rfl
@[simp] theorem State.setSlot_repeatTable (s : State) (t : SectorId) (n : SlotId) (x : Slot) : (s.setSlot t n x).repeatTable = s.repeatTable := rfl
@[simp] theorem State.setSlot_settings (s : State) (t : SectorId) (n : SlotId) (x : Slot) : (s.setSlot t n x).settings = s.settings := rfl
@[simp] theorem State.setSlot_guardLock (s : State) (t : SectorId) (n : SlotId) (x : Slot) : (s.setSlot t n x).guardLock = s.guardLock := rfl
@[simp] theorem State.setSlot_choices (s : State) (t : SectorId) (n : SlotId) (x : Slot) : (s.setSlot t n x).choices = s.choices := rfl
@[simp] theorem State.setSlot_pending (s : State) (t : SectorId) (n : SlotId) (x : Slot) : (s.setSlot t n x).pending = s.pending := rfl

/-! ### updateEmergency -/

@[simp] theorem State.updateEmergency_localTime (s : State) (tag : Tag) (f : Waiting → Waiting) : (s.updateEmergency tag f).localTime = s.localTime := rfl
@[simp] theorem State.updateEmergency_inReset (s : State) (tag : Tag) (f : Waiting → Waiting) : (s.updateEmergency tag f).inReset = s.inReset := rfl
@[simp] theorem State.updateEmergency_link (s : State) (tag : Tag) (f : Waiting → Waiting) : (s.updateEmergency tag f).link = s.link := rfl
@[simp] theorem State.updateEmergency_screening (s : State) (tag : Tag) (f : Waiting → Waiting) : (s.updateEmergency tag f).screening = s.screening := rfl
@[simp] theorem State.updateEmergency_sectors (s : State) (tag : Tag) (f : Waiting → Waiting) : (s.updateEmergency tag f).sectors = s.sectors := rfl
@[simp] theorem State.updateEmergency_slots (s : State) (tag : Tag) (f : Waiting → Waiting) : (s.updateEmergency tag f).slots = s.slots := rfl
@[simp] theorem State.updateEmergency_emergency (s : State) (tag : Tag) (f : Waiting → Waiting) :
    (s.updateEmergency tag f).emergency = s.emergency.map (fun e => if e.tag = tag then f e else e) := rfl
@[simp] theorem State.updateEmergency_priority (s : State) (tag : Tag) (f : Waiting → Waiting) : (s.updateEmergency tag f).priority = s.priority := rfl
@[simp] theorem State.updateEmergency_general (s : State) (tag : Tag) (f : Waiting → Waiting) : (s.updateEmergency tag f).general = s.general := rfl
@[simp] theorem State.updateEmergency_emergencyFull (s : State) (tag : Tag) (f : Waiting → Waiting) : (s.updateEmergency tag f).emergencyFull = s.emergencyFull := rfl
@[simp] theorem State.updateEmergency_serviceDeferred (s : State) (tag : Tag) (f : Waiting → Waiting) : (s.updateEmergency tag f).serviceDeferred = s.serviceDeferred := rfl
@[simp] theorem State.updateEmergency_passDeferred (s : State) (tag : Tag) (f : Waiting → Waiting) : (s.updateEmergency tag f).passDeferred = s.passDeferred := rfl
@[simp] theorem State.updateEmergency_retrySignal (s : State) (tag : Tag) (f : Waiting → Waiting) : (s.updateEmergency tag f).retrySignal = s.retrySignal := rfl
@[simp] theorem State.updateEmergency_passSignal (s : State) (tag : Tag) (f : Waiting → Waiting) : (s.updateEmergency tag f).passSignal = s.passSignal := rfl
@[simp] theorem State.updateEmergency_governor (s : State) (tag : Tag) (f : Waiting → Waiting) : (s.updateEmergency tag f).governor = s.governor := rfl
@[simp] theorem State.updateEmergency_repeatTable (s : State) (tag : Tag) (f : Waiting → Waiting) : (s.updateEmergency tag f).repeatTable = s.repeatTable := rfl
@[simp] theorem State.updateEmergency_settings (s : State) (tag : Tag) (f : Waiting → Waiting) : (s.updateEmergency tag f).settings = s.settings := rfl
@[simp] theorem State.updateEmergency_guardLock (s : State) (tag : Tag) (f : Waiting → Waiting) : (s.updateEmergency tag f).guardLock = s.guardLock := rfl
@[simp] theorem State.updateEmergency_choices (s : State) (tag : Tag) (f : Waiting → Waiting) : (s.updateEmergency tag f).choices = s.choices := rfl
@[simp] theorem State.updateEmergency_pending (s : State) (tag : Tag) (f : Waiting → Waiting) : (s.updateEmergency tag f).pending = s.pending := rfl

/-! ### setEarmark -/

@[simp] theorem State.setEarmark_localTime (s : State) (tag : Tag) (m : Option Place) : (s.setEarmark tag m).localTime = s.localTime := rfl
@[simp] theorem State.setEarmark_inReset (s : State) (tag : Tag) (m : Option Place) : (s.setEarmark tag m).inReset = s.inReset := rfl
@[simp] theorem State.setEarmark_link (s : State) (tag : Tag) (m : Option Place) : (s.setEarmark tag m).link = s.link := rfl
@[simp] theorem State.setEarmark_screening (s : State) (tag : Tag) (m : Option Place) : (s.setEarmark tag m).screening = s.screening := rfl
@[simp] theorem State.setEarmark_sectors (s : State) (tag : Tag) (m : Option Place) : (s.setEarmark tag m).sectors = s.sectors := rfl
@[simp] theorem State.setEarmark_slots (s : State) (tag : Tag) (m : Option Place) : (s.setEarmark tag m).slots = s.slots := rfl
@[simp] theorem State.setEarmark_emergency (s : State) (tag : Tag) (m : Option Place) :
    (s.setEarmark tag m).emergency = s.emergency.map (fun e => if e.tag = tag then { e with earmark := m } else e) := rfl
@[simp] theorem State.setEarmark_priority (s : State) (tag : Tag) (m : Option Place) : (s.setEarmark tag m).priority = s.priority := rfl
@[simp] theorem State.setEarmark_general (s : State) (tag : Tag) (m : Option Place) : (s.setEarmark tag m).general = s.general := rfl
@[simp] theorem State.setEarmark_emergencyFull (s : State) (tag : Tag) (m : Option Place) : (s.setEarmark tag m).emergencyFull = s.emergencyFull := rfl
@[simp] theorem State.setEarmark_serviceDeferred (s : State) (tag : Tag) (m : Option Place) : (s.setEarmark tag m).serviceDeferred = s.serviceDeferred := rfl
@[simp] theorem State.setEarmark_passDeferred (s : State) (tag : Tag) (m : Option Place) : (s.setEarmark tag m).passDeferred = s.passDeferred := rfl
@[simp] theorem State.setEarmark_retrySignal (s : State) (tag : Tag) (m : Option Place) : (s.setEarmark tag m).retrySignal = s.retrySignal := rfl
@[simp] theorem State.setEarmark_passSignal (s : State) (tag : Tag) (m : Option Place) : (s.setEarmark tag m).passSignal = s.passSignal := rfl
@[simp] theorem State.setEarmark_governor (s : State) (tag : Tag) (m : Option Place) : (s.setEarmark tag m).governor = s.governor := rfl
@[simp] theorem State.setEarmark_repeatTable (s : State) (tag : Tag) (m : Option Place) : (s.setEarmark tag m).repeatTable = s.repeatTable := rfl
@[simp] theorem State.setEarmark_settings (s : State) (tag : Tag) (m : Option Place) : (s.setEarmark tag m).settings = s.settings := rfl
@[simp] theorem State.setEarmark_guardLock (s : State) (tag : Tag) (m : Option Place) : (s.setEarmark tag m).guardLock = s.guardLock := rfl
@[simp] theorem State.setEarmark_choices (s : State) (tag : Tag) (m : Option Place) : (s.setEarmark tag m).choices = s.choices := rfl
@[simp] theorem State.setEarmark_pending (s : State) (tag : Tag) (m : Option Place) : (s.setEarmark tag m).pending = s.pending := rfl

/-! ### placeAction -/

@[simp] theorem State.placeAction_localTime (s : State) (r : ActionReport) : (s.placeAction r).localTime = s.localTime := rfl
@[simp] theorem State.placeAction_inReset (s : State) (r : ActionReport) : (s.placeAction r).inReset = s.inReset := rfl
@[simp] theorem State.placeAction_link (s : State) (r : ActionReport) :
    (s.placeAction r).link = { s.link with actionLane := s.link.actionLane ++ [r] } := rfl
@[simp] theorem State.placeAction_screening (s : State) (r : ActionReport) : (s.placeAction r).screening = s.screening := rfl
@[simp] theorem State.placeAction_sectors (s : State) (r : ActionReport) : (s.placeAction r).sectors = s.sectors := rfl
@[simp] theorem State.placeAction_slots (s : State) (r : ActionReport) : (s.placeAction r).slots = s.slots := rfl
@[simp] theorem State.placeAction_emergency (s : State) (r : ActionReport) : (s.placeAction r).emergency = s.emergency := rfl
@[simp] theorem State.placeAction_priority (s : State) (r : ActionReport) : (s.placeAction r).priority = s.priority := rfl
@[simp] theorem State.placeAction_general (s : State) (r : ActionReport) : (s.placeAction r).general = s.general := rfl
@[simp] theorem State.placeAction_emergencyFull (s : State) (r : ActionReport) : (s.placeAction r).emergencyFull = s.emergencyFull := rfl
@[simp] theorem State.placeAction_serviceDeferred (s : State) (r : ActionReport) : (s.placeAction r).serviceDeferred = s.serviceDeferred := rfl
@[simp] theorem State.placeAction_passDeferred (s : State) (r : ActionReport) : (s.placeAction r).passDeferred = s.passDeferred := rfl
@[simp] theorem State.placeAction_retrySignal (s : State) (r : ActionReport) : (s.placeAction r).retrySignal = s.retrySignal := rfl
@[simp] theorem State.placeAction_passSignal (s : State) (r : ActionReport) : (s.placeAction r).passSignal = s.passSignal := rfl
@[simp] theorem State.placeAction_governor (s : State) (r : ActionReport) : (s.placeAction r).governor = s.governor := rfl
@[simp] theorem State.placeAction_repeatTable (s : State) (r : ActionReport) : (s.placeAction r).repeatTable = s.repeatTable := rfl
@[simp] theorem State.placeAction_settings (s : State) (r : ActionReport) : (s.placeAction r).settings = s.settings := rfl
@[simp] theorem State.placeAction_guardLock (s : State) (r : ActionReport) : (s.placeAction r).guardLock = s.guardLock := rfl
@[simp] theorem State.placeAction_choices (s : State) (r : ActionReport) : (s.placeAction r).choices = s.choices := rfl
@[simp] theorem State.placeAction_pending (s : State) (r : ActionReport) : (s.placeAction r).pending = s.pending := rfl

/-! ### pushReply -/

@[simp] theorem State.pushReply_localTime (s : State) (r : Reply) : (s.pushReply r).localTime = s.localTime := rfl
@[simp] theorem State.pushReply_inReset (s : State) (r : Reply) : (s.pushReply r).inReset = s.inReset := rfl
@[simp] theorem State.pushReply_link (s : State) (r : Reply) :
    (s.pushReply r).link = { s.link with replyQueue := s.link.replyQueue ++ [r] } := rfl
@[simp] theorem State.pushReply_screening (s : State) (r : Reply) : (s.pushReply r).screening = s.screening := rfl
@[simp] theorem State.pushReply_sectors (s : State) (r : Reply) : (s.pushReply r).sectors = s.sectors := rfl
@[simp] theorem State.pushReply_slots (s : State) (r : Reply) : (s.pushReply r).slots = s.slots := rfl
@[simp] theorem State.pushReply_emergency (s : State) (r : Reply) : (s.pushReply r).emergency = s.emergency := rfl
@[simp] theorem State.pushReply_priority (s : State) (r : Reply) : (s.pushReply r).priority = s.priority := rfl
@[simp] theorem State.pushReply_general (s : State) (r : Reply) : (s.pushReply r).general = s.general := rfl
@[simp] theorem State.pushReply_emergencyFull (s : State) (r : Reply) : (s.pushReply r).emergencyFull = s.emergencyFull := rfl
@[simp] theorem State.pushReply_serviceDeferred (s : State) (r : Reply) : (s.pushReply r).serviceDeferred = s.serviceDeferred := rfl
@[simp] theorem State.pushReply_passDeferred (s : State) (r : Reply) : (s.pushReply r).passDeferred = s.passDeferred := rfl
@[simp] theorem State.pushReply_retrySignal (s : State) (r : Reply) : (s.pushReply r).retrySignal = s.retrySignal := rfl
@[simp] theorem State.pushReply_passSignal (s : State) (r : Reply) : (s.pushReply r).passSignal = s.passSignal := rfl
@[simp] theorem State.pushReply_governor (s : State) (r : Reply) : (s.pushReply r).governor = s.governor := rfl
@[simp] theorem State.pushReply_repeatTable (s : State) (r : Reply) : (s.pushReply r).repeatTable = s.repeatTable := rfl
@[simp] theorem State.pushReply_settings (s : State) (r : Reply) : (s.pushReply r).settings = s.settings := rfl
@[simp] theorem State.pushReply_guardLock (s : State) (r : Reply) : (s.pushReply r).guardLock = s.guardLock := rfl
@[simp] theorem State.pushReply_choices (s : State) (r : Reply) : (s.pushReply r).choices = s.choices := rfl
@[simp] theorem State.pushReply_pending (s : State) (r : Reply) : (s.pushReply r).pending = s.pending := rfl

/-! ### setSurge -/

@[simp] theorem State.setSurge_localTime (s : State) (w : Option Surge) : (s.setSurge w).localTime = s.localTime := rfl
@[simp] theorem State.setSurge_inReset (s : State) (w : Option Surge) : (s.setSurge w).inReset = s.inReset := rfl
@[simp] theorem State.setSurge_link (s : State) (w : Option Surge) : (s.setSurge w).link = s.link := rfl
@[simp] theorem State.setSurge_screening (s : State) (w : Option Surge) : (s.setSurge w).screening = s.screening := rfl
@[simp] theorem State.setSurge_sectors (s : State) (w : Option Surge) : (s.setSurge w).sectors = s.sectors := rfl
@[simp] theorem State.setSurge_slots (s : State) (w : Option Surge) : (s.setSurge w).slots = s.slots := rfl
@[simp] theorem State.setSurge_emergency (s : State) (w : Option Surge) : (s.setSurge w).emergency = s.emergency := rfl
@[simp] theorem State.setSurge_priority (s : State) (w : Option Surge) : (s.setSurge w).priority = s.priority := rfl
@[simp] theorem State.setSurge_general (s : State) (w : Option Surge) : (s.setSurge w).general = s.general := rfl
@[simp] theorem State.setSurge_emergencyFull (s : State) (w : Option Surge) : (s.setSurge w).emergencyFull = s.emergencyFull := rfl
@[simp] theorem State.setSurge_serviceDeferred (s : State) (w : Option Surge) : (s.setSurge w).serviceDeferred = s.serviceDeferred := rfl
@[simp] theorem State.setSurge_passDeferred (s : State) (w : Option Surge) : (s.setSurge w).passDeferred = s.passDeferred := rfl
@[simp] theorem State.setSurge_retrySignal (s : State) (w : Option Surge) : (s.setSurge w).retrySignal = s.retrySignal := rfl
@[simp] theorem State.setSurge_passSignal (s : State) (w : Option Surge) : (s.setSurge w).passSignal = s.passSignal := rfl
@[simp] theorem State.setSurge_governor (s : State) (w : Option Surge) :
    (s.setSurge w).governor = { s.governor with surge := w } := rfl
@[simp] theorem State.setSurge_repeatTable (s : State) (w : Option Surge) : (s.setSurge w).repeatTable = s.repeatTable := rfl
@[simp] theorem State.setSurge_settings (s : State) (w : Option Surge) : (s.setSurge w).settings = s.settings := rfl
@[simp] theorem State.setSurge_guardLock (s : State) (w : Option Surge) : (s.setSurge w).guardLock = s.guardLock := rfl
@[simp] theorem State.setSurge_choices (s : State) (w : Option Surge) : (s.setSurge w).choices = s.choices := rfl
@[simp] theorem State.setSurge_pending (s : State) (w : Option Surge) : (s.setSurge w).pending = s.pending := rfl

/-! ### stageRow -/

@[simp] theorem State.stageRow_localTime (s : State) (l : LevelId) (r : LevelRow) : (s.stageRow l r).localTime = s.localTime := rfl
@[simp] theorem State.stageRow_inReset (s : State) (l : LevelId) (r : LevelRow) : (s.stageRow l r).inReset = s.inReset := rfl
@[simp] theorem State.stageRow_link (s : State) (l : LevelId) (r : LevelRow) : (s.stageRow l r).link = s.link := rfl
@[simp] theorem State.stageRow_screening (s : State) (l : LevelId) (r : LevelRow) : (s.stageRow l r).screening = s.screening := rfl
@[simp] theorem State.stageRow_sectors (s : State) (l : LevelId) (r : LevelRow) : (s.stageRow l r).sectors = s.sectors := rfl
@[simp] theorem State.stageRow_slots (s : State) (l : LevelId) (r : LevelRow) : (s.stageRow l r).slots = s.slots := rfl
@[simp] theorem State.stageRow_emergency (s : State) (l : LevelId) (r : LevelRow) : (s.stageRow l r).emergency = s.emergency := rfl
@[simp] theorem State.stageRow_priority (s : State) (l : LevelId) (r : LevelRow) : (s.stageRow l r).priority = s.priority := rfl
@[simp] theorem State.stageRow_general (s : State) (l : LevelId) (r : LevelRow) : (s.stageRow l r).general = s.general := rfl
@[simp] theorem State.stageRow_emergencyFull (s : State) (l : LevelId) (r : LevelRow) : (s.stageRow l r).emergencyFull = s.emergencyFull := rfl
@[simp] theorem State.stageRow_serviceDeferred (s : State) (l : LevelId) (r : LevelRow) : (s.stageRow l r).serviceDeferred = s.serviceDeferred := rfl
@[simp] theorem State.stageRow_passDeferred (s : State) (l : LevelId) (r : LevelRow) : (s.stageRow l r).passDeferred = s.passDeferred := rfl
@[simp] theorem State.stageRow_retrySignal (s : State) (l : LevelId) (r : LevelRow) : (s.stageRow l r).retrySignal = s.retrySignal := rfl
@[simp] theorem State.stageRow_passSignal (s : State) (l : LevelId) (r : LevelRow) : (s.stageRow l r).passSignal = s.passSignal := rfl
@[simp] theorem State.stageRow_governor (s : State) (l : LevelId) (r : LevelRow) :
    (s.stageRow l r).governor = { s.governor with stagedTable := s.governor.stagedTable.set l r } := rfl
@[simp] theorem State.stageRow_repeatTable (s : State) (l : LevelId) (r : LevelRow) : (s.stageRow l r).repeatTable = s.repeatTable := rfl
@[simp] theorem State.stageRow_settings (s : State) (l : LevelId) (r : LevelRow) : (s.stageRow l r).settings = s.settings := rfl
@[simp] theorem State.stageRow_guardLock (s : State) (l : LevelId) (r : LevelRow) : (s.stageRow l r).guardLock = s.guardLock := rfl
@[simp] theorem State.stageRow_choices (s : State) (l : LevelId) (r : LevelRow) : (s.stageRow l r).choices = s.choices := rfl
@[simp] theorem State.stageRow_pending (s : State) (l : LevelId) (r : LevelRow) : (s.stageRow l r).pending = s.pending := rfl

/-! ### setScreenEntry -/

@[simp] theorem State.setScreenEntry_localTime (s : State) (i : ScreenIndex) (e : ScreenEntry) : (s.setScreenEntry i e).localTime = s.localTime := rfl
@[simp] theorem State.setScreenEntry_inReset (s : State) (i : ScreenIndex) (e : ScreenEntry) : (s.setScreenEntry i e).inReset = s.inReset := rfl
@[simp] theorem State.setScreenEntry_link (s : State) (i : ScreenIndex) (e : ScreenEntry) : (s.setScreenEntry i e).link = s.link := rfl
@[simp] theorem State.setScreenEntry_screening (s : State) (i : ScreenIndex) (e : ScreenEntry) :
    (s.setScreenEntry i e).screening = { s.screening with entries := s.screening.entries.set i e } := rfl
@[simp] theorem State.setScreenEntry_sectors (s : State) (i : ScreenIndex) (e : ScreenEntry) : (s.setScreenEntry i e).sectors = s.sectors := rfl
@[simp] theorem State.setScreenEntry_slots (s : State) (i : ScreenIndex) (e : ScreenEntry) : (s.setScreenEntry i e).slots = s.slots := rfl
@[simp] theorem State.setScreenEntry_emergency (s : State) (i : ScreenIndex) (e : ScreenEntry) : (s.setScreenEntry i e).emergency = s.emergency := rfl
@[simp] theorem State.setScreenEntry_priority (s : State) (i : ScreenIndex) (e : ScreenEntry) : (s.setScreenEntry i e).priority = s.priority := rfl
@[simp] theorem State.setScreenEntry_general (s : State) (i : ScreenIndex) (e : ScreenEntry) : (s.setScreenEntry i e).general = s.general := rfl
@[simp] theorem State.setScreenEntry_emergencyFull (s : State) (i : ScreenIndex) (e : ScreenEntry) : (s.setScreenEntry i e).emergencyFull = s.emergencyFull := rfl
@[simp] theorem State.setScreenEntry_serviceDeferred (s : State) (i : ScreenIndex) (e : ScreenEntry) : (s.setScreenEntry i e).serviceDeferred = s.serviceDeferred := rfl
@[simp] theorem State.setScreenEntry_passDeferred (s : State) (i : ScreenIndex) (e : ScreenEntry) : (s.setScreenEntry i e).passDeferred = s.passDeferred := rfl
@[simp] theorem State.setScreenEntry_retrySignal (s : State) (i : ScreenIndex) (e : ScreenEntry) : (s.setScreenEntry i e).retrySignal = s.retrySignal := rfl
@[simp] theorem State.setScreenEntry_passSignal (s : State) (i : ScreenIndex) (e : ScreenEntry) : (s.setScreenEntry i e).passSignal = s.passSignal := rfl
@[simp] theorem State.setScreenEntry_governor (s : State) (i : ScreenIndex) (e : ScreenEntry) : (s.setScreenEntry i e).governor = s.governor := rfl
@[simp] theorem State.setScreenEntry_repeatTable (s : State) (i : ScreenIndex) (e : ScreenEntry) : (s.setScreenEntry i e).repeatTable = s.repeatTable := rfl
@[simp] theorem State.setScreenEntry_settings (s : State) (i : ScreenIndex) (e : ScreenEntry) : (s.setScreenEntry i e).settings = s.settings := rfl
@[simp] theorem State.setScreenEntry_guardLock (s : State) (i : ScreenIndex) (e : ScreenEntry) : (s.setScreenEntry i e).guardLock = s.guardLock := rfl
@[simp] theorem State.setScreenEntry_choices (s : State) (i : ScreenIndex) (e : ScreenEntry) : (s.setScreenEntry i e).choices = s.choices := rfl
@[simp] theorem State.setScreenEntry_pending (s : State) (i : ScreenIndex) (e : ScreenEntry) : (s.setScreenEntry i e).pending = s.pending := rfl

/-! ### setHold -/

@[simp] theorem State.setHold_localTime (s : State) (h : Option Hold) : (s.setHold h).localTime = s.localTime := rfl
@[simp] theorem State.setHold_inReset (s : State) (h : Option Hold) : (s.setHold h).inReset = s.inReset := rfl
@[simp] theorem State.setHold_link (s : State) (h : Option Hold) : (s.setHold h).link = s.link := rfl
@[simp] theorem State.setHold_screening (s : State) (h : Option Hold) :
    (s.setHold h).screening = { s.screening with hold := h } := rfl
@[simp] theorem State.setHold_sectors (s : State) (h : Option Hold) : (s.setHold h).sectors = s.sectors := rfl
@[simp] theorem State.setHold_slots (s : State) (h : Option Hold) : (s.setHold h).slots = s.slots := rfl
@[simp] theorem State.setHold_emergency (s : State) (h : Option Hold) : (s.setHold h).emergency = s.emergency := rfl
@[simp] theorem State.setHold_priority (s : State) (h : Option Hold) : (s.setHold h).priority = s.priority := rfl
@[simp] theorem State.setHold_general (s : State) (h : Option Hold) : (s.setHold h).general = s.general := rfl
@[simp] theorem State.setHold_emergencyFull (s : State) (h : Option Hold) : (s.setHold h).emergencyFull = s.emergencyFull := rfl
@[simp] theorem State.setHold_serviceDeferred (s : State) (h : Option Hold) : (s.setHold h).serviceDeferred = s.serviceDeferred := rfl
@[simp] theorem State.setHold_passDeferred (s : State) (h : Option Hold) : (s.setHold h).passDeferred = s.passDeferred := rfl
@[simp] theorem State.setHold_retrySignal (s : State) (h : Option Hold) : (s.setHold h).retrySignal = s.retrySignal := rfl
@[simp] theorem State.setHold_passSignal (s : State) (h : Option Hold) : (s.setHold h).passSignal = s.passSignal := rfl
@[simp] theorem State.setHold_governor (s : State) (h : Option Hold) : (s.setHold h).governor = s.governor := rfl
@[simp] theorem State.setHold_repeatTable (s : State) (h : Option Hold) : (s.setHold h).repeatTable = s.repeatTable := rfl
@[simp] theorem State.setHold_settings (s : State) (h : Option Hold) : (s.setHold h).settings = s.settings := rfl
@[simp] theorem State.setHold_guardLock (s : State) (h : Option Hold) : (s.setHold h).guardLock = s.guardLock := rfl
@[simp] theorem State.setHold_choices (s : State) (h : Option Hold) : (s.setHold h).choices = s.choices := rfl
@[simp] theorem State.setHold_pending (s : State) (h : Option Hold) : (s.setHold h).pending = s.pending := rfl

/-! ### setReceiver -/

@[simp] theorem State.setReceiver_localTime (s : State) (r : Receiver) : (s.setReceiver r).localTime = s.localTime := rfl
@[simp] theorem State.setReceiver_inReset (s : State) (r : Receiver) : (s.setReceiver r).inReset = s.inReset := rfl
@[simp] theorem State.setReceiver_link (s : State) (r : Receiver) :
    (s.setReceiver r).link = { s.link with receiver := r, gapTicks := 0 } := rfl
@[simp] theorem State.setReceiver_screening (s : State) (r : Receiver) : (s.setReceiver r).screening = s.screening := rfl
@[simp] theorem State.setReceiver_sectors (s : State) (r : Receiver) : (s.setReceiver r).sectors = s.sectors := rfl
@[simp] theorem State.setReceiver_slots (s : State) (r : Receiver) : (s.setReceiver r).slots = s.slots := rfl
@[simp] theorem State.setReceiver_emergency (s : State) (r : Receiver) : (s.setReceiver r).emergency = s.emergency := rfl
@[simp] theorem State.setReceiver_priority (s : State) (r : Receiver) : (s.setReceiver r).priority = s.priority := rfl
@[simp] theorem State.setReceiver_general (s : State) (r : Receiver) : (s.setReceiver r).general = s.general := rfl
@[simp] theorem State.setReceiver_emergencyFull (s : State) (r : Receiver) : (s.setReceiver r).emergencyFull = s.emergencyFull := rfl
@[simp] theorem State.setReceiver_serviceDeferred (s : State) (r : Receiver) : (s.setReceiver r).serviceDeferred = s.serviceDeferred := rfl
@[simp] theorem State.setReceiver_passDeferred (s : State) (r : Receiver) : (s.setReceiver r).passDeferred = s.passDeferred := rfl
@[simp] theorem State.setReceiver_retrySignal (s : State) (r : Receiver) : (s.setReceiver r).retrySignal = s.retrySignal := rfl
@[simp] theorem State.setReceiver_passSignal (s : State) (r : Receiver) : (s.setReceiver r).passSignal = s.passSignal := rfl
@[simp] theorem State.setReceiver_governor (s : State) (r : Receiver) : (s.setReceiver r).governor = s.governor := rfl
@[simp] theorem State.setReceiver_repeatTable (s : State) (r : Receiver) : (s.setReceiver r).repeatTable = s.repeatTable := rfl
@[simp] theorem State.setReceiver_settings (s : State) (r : Receiver) : (s.setReceiver r).settings = s.settings := rfl
@[simp] theorem State.setReceiver_guardLock (s : State) (r : Receiver) : (s.setReceiver r).guardLock = s.guardLock := rfl
@[simp] theorem State.setReceiver_choices (s : State) (r : Receiver) : (s.setReceiver r).choices = s.choices := rfl
@[simp] theorem State.setReceiver_pending (s : State) (r : Receiver) : (s.setReceiver r).pending = s.pending := rfl

/-! ### setLineLow -/

@[simp] theorem State.setLineLow_localTime (s : State) (b : Bool) : (s.setLineLow b).localTime = s.localTime := rfl
@[simp] theorem State.setLineLow_inReset (s : State) (b : Bool) : (s.setLineLow b).inReset = s.inReset := rfl
@[simp] theorem State.setLineLow_link (s : State) (b : Bool) :
    (s.setLineLow b).link = { s.link with lineLow := b } := rfl
@[simp] theorem State.setLineLow_screening (s : State) (b : Bool) : (s.setLineLow b).screening = s.screening := rfl
@[simp] theorem State.setLineLow_sectors (s : State) (b : Bool) : (s.setLineLow b).sectors = s.sectors := rfl
@[simp] theorem State.setLineLow_slots (s : State) (b : Bool) : (s.setLineLow b).slots = s.slots := rfl
@[simp] theorem State.setLineLow_emergency (s : State) (b : Bool) : (s.setLineLow b).emergency = s.emergency := rfl
@[simp] theorem State.setLineLow_priority (s : State) (b : Bool) : (s.setLineLow b).priority = s.priority := rfl
@[simp] theorem State.setLineLow_general (s : State) (b : Bool) : (s.setLineLow b).general = s.general := rfl
@[simp] theorem State.setLineLow_emergencyFull (s : State) (b : Bool) : (s.setLineLow b).emergencyFull = s.emergencyFull := rfl
@[simp] theorem State.setLineLow_serviceDeferred (s : State) (b : Bool) : (s.setLineLow b).serviceDeferred = s.serviceDeferred := rfl
@[simp] theorem State.setLineLow_passDeferred (s : State) (b : Bool) : (s.setLineLow b).passDeferred = s.passDeferred := rfl
@[simp] theorem State.setLineLow_retrySignal (s : State) (b : Bool) : (s.setLineLow b).retrySignal = s.retrySignal := rfl
@[simp] theorem State.setLineLow_passSignal (s : State) (b : Bool) : (s.setLineLow b).passSignal = s.passSignal := rfl
@[simp] theorem State.setLineLow_governor (s : State) (b : Bool) : (s.setLineLow b).governor = s.governor := rfl
@[simp] theorem State.setLineLow_repeatTable (s : State) (b : Bool) : (s.setLineLow b).repeatTable = s.repeatTable := rfl
@[simp] theorem State.setLineLow_settings (s : State) (b : Bool) : (s.setLineLow b).settings = s.settings := rfl
@[simp] theorem State.setLineLow_guardLock (s : State) (b : Bool) : (s.setLineLow b).guardLock = s.guardLock := rfl
@[simp] theorem State.setLineLow_choices (s : State) (b : Bool) : (s.setLineLow b).choices = s.choices := rfl
@[simp] theorem State.setLineLow_pending (s : State) (b : Bool) : (s.setLineLow b).pending = s.pending := rfl

/-! ### afterTaking -/

@[simp] theorem State.afterTaking_localTime (s : State) : s.afterTaking.localTime = s.localTime := rfl
@[simp] theorem State.afterTaking_inReset (s : State) : s.afterTaking.inReset = s.inReset := rfl
@[simp] theorem State.afterTaking_screening (s : State) : s.afterTaking.screening = s.screening := rfl
@[simp] theorem State.afterTaking_sectors (s : State) : s.afterTaking.sectors = s.sectors := rfl
@[simp] theorem State.afterTaking_slots (s : State) : s.afterTaking.slots = s.slots := rfl
@[simp] theorem State.afterTaking_emergency (s : State) : s.afterTaking.emergency = s.emergency := rfl
@[simp] theorem State.afterTaking_priority (s : State) : s.afterTaking.priority = s.priority := rfl
@[simp] theorem State.afterTaking_general (s : State) : s.afterTaking.general = s.general := rfl
@[simp] theorem State.afterTaking_emergencyFull (s : State) : s.afterTaking.emergencyFull = s.emergencyFull := rfl
@[simp] theorem State.afterTaking_serviceDeferred (s : State) : s.afterTaking.serviceDeferred = s.serviceDeferred := rfl
@[simp] theorem State.afterTaking_passDeferred (s : State) : s.afterTaking.passDeferred = s.passDeferred := rfl
@[simp] theorem State.afterTaking_retrySignal (s : State) : s.afterTaking.retrySignal = s.retrySignal := rfl
@[simp] theorem State.afterTaking_passSignal (s : State) : s.afterTaking.passSignal = s.passSignal := rfl
@[simp] theorem State.afterTaking_governor (s : State) : s.afterTaking.governor = s.governor := rfl
@[simp] theorem State.afterTaking_repeatTable (s : State) : s.afterTaking.repeatTable = s.repeatTable := rfl
@[simp] theorem State.afterTaking_settings (s : State) : s.afterTaking.settings = s.settings := rfl
@[simp] theorem State.afterTaking_guardLock (s : State) : s.afterTaking.guardLock = s.guardLock := rfl
@[simp] theorem State.afterTaking_choices (s : State) : s.afterTaking.choices = s.choices := rfl
@[simp] theorem State.afterTaking_pending (s : State) : s.afterTaking.pending = s.pending := rfl

/-! ### roomAppeared -/

@[simp] theorem State.roomAppeared_localTime (s : State) : s.roomAppeared.localTime = s.localTime := rfl
@[simp] theorem State.roomAppeared_inReset (s : State) : s.roomAppeared.inReset = s.inReset := rfl
@[simp] theorem State.roomAppeared_link (s : State) : s.roomAppeared.link = s.link := rfl
@[simp] theorem State.roomAppeared_screening (s : State) : s.roomAppeared.screening = s.screening := rfl
@[simp] theorem State.roomAppeared_sectors (s : State) : s.roomAppeared.sectors = s.sectors := rfl
@[simp] theorem State.roomAppeared_emergencyFull (s : State) : s.roomAppeared.emergencyFull = s.emergencyFull := rfl
@[simp] theorem State.roomAppeared_serviceDeferred (s : State) : s.roomAppeared.serviceDeferred = s.serviceDeferred := rfl
@[simp] theorem State.roomAppeared_passDeferred (s : State) : s.roomAppeared.passDeferred = s.passDeferred := rfl
@[simp] theorem State.roomAppeared_retrySignal (s : State) :
    s.roomAppeared.retrySignal = (s.retrySignal || s.serviceDeferred) := rfl
@[simp] theorem State.roomAppeared_passSignal (s : State) :
    s.roomAppeared.passSignal = (s.passSignal || s.passDeferred) := rfl
@[simp] theorem State.roomAppeared_governor (s : State) : s.roomAppeared.governor = s.governor := rfl
@[simp] theorem State.roomAppeared_repeatTable (s : State) : s.roomAppeared.repeatTable = s.repeatTable := rfl
@[simp] theorem State.roomAppeared_settings (s : State) : s.roomAppeared.settings = s.settings := rfl
@[simp] theorem State.roomAppeared_guardLock (s : State) : s.roomAppeared.guardLock = s.guardLock := rfl
@[simp] theorem State.roomAppeared_choices (s : State) : s.roomAppeared.choices = s.choices := rfl
@[simp] theorem State.roomAppeared_pending (s : State) : s.roomAppeared.pending = s.pending := rfl

/-! ### setWaiting -/

@[simp] theorem State.setWaiting_localTime (s : State) (c : CallClass) (l : List Waiting) : (s.setWaiting c l).localTime = s.localTime := by
  cases c <;> rfl
@[simp] theorem State.setWaiting_inReset (s : State) (c : CallClass) (l : List Waiting) : (s.setWaiting c l).inReset = s.inReset := by
  cases c <;> rfl
@[simp] theorem State.setWaiting_link (s : State) (c : CallClass) (l : List Waiting) : (s.setWaiting c l).link = s.link := by
  cases c <;> rfl
@[simp] theorem State.setWaiting_screening (s : State) (c : CallClass) (l : List Waiting) : (s.setWaiting c l).screening = s.screening := by
  cases c <;> rfl
@[simp] theorem State.setWaiting_sectors (s : State) (c : CallClass) (l : List Waiting) : (s.setWaiting c l).sectors = s.sectors := by
  cases c <;> rfl
@[simp] theorem State.setWaiting_slots (s : State) (c : CallClass) (l : List Waiting) : (s.setWaiting c l).slots = s.slots := by
  cases c <;> rfl
@[simp] theorem State.setWaiting_emergencyFull (s : State) (c : CallClass) (l : List Waiting) : (s.setWaiting c l).emergencyFull = s.emergencyFull := by
  cases c <;> rfl
@[simp] theorem State.setWaiting_serviceDeferred (s : State) (c : CallClass) (l : List Waiting) : (s.setWaiting c l).serviceDeferred = s.serviceDeferred := by
  cases c <;> rfl
@[simp] theorem State.setWaiting_passDeferred (s : State) (c : CallClass) (l : List Waiting) : (s.setWaiting c l).passDeferred = s.passDeferred := by
  cases c <;> rfl
@[simp] theorem State.setWaiting_retrySignal (s : State) (c : CallClass) (l : List Waiting) : (s.setWaiting c l).retrySignal = s.retrySignal := by
  cases c <;> rfl
@[simp] theorem State.setWaiting_passSignal (s : State) (c : CallClass) (l : List Waiting) : (s.setWaiting c l).passSignal = s.passSignal := by
  cases c <;> rfl
@[simp] theorem State.setWaiting_governor (s : State) (c : CallClass) (l : List Waiting) : (s.setWaiting c l).governor = s.governor := by
  cases c <;> rfl
@[simp] theorem State.setWaiting_repeatTable (s : State) (c : CallClass) (l : List Waiting) : (s.setWaiting c l).repeatTable = s.repeatTable := by
  cases c <;> rfl
@[simp] theorem State.setWaiting_settings (s : State) (c : CallClass) (l : List Waiting) : (s.setWaiting c l).settings = s.settings := by
  cases c <;> rfl
@[simp] theorem State.setWaiting_guardLock (s : State) (c : CallClass) (l : List Waiting) : (s.setWaiting c l).guardLock = s.guardLock := by
  cases c <;> rfl
@[simp] theorem State.setWaiting_choices (s : State) (c : CallClass) (l : List Waiting) : (s.setWaiting c l).choices = s.choices := by
  cases c <;> rfl
@[simp] theorem State.setWaiting_pending (s : State) (c : CallClass) (l : List Waiting) : (s.setWaiting c l).pending = s.pending := by
  cases c <;> rfl
@[simp] theorem State.setWaiting_emergency_waiting (s : State) (l : List Waiting) : (s.setWaiting .emergency l).emergency = l := rfl
@[simp] theorem State.setWaiting_priority_waiting (s : State) (l : List Waiting) : (s.setWaiting .priority l).priority = l := rfl
@[simp] theorem State.setWaiting_general_waiting (s : State) (l : List Waiting) : (s.setWaiting .general l).general = l := rfl

@[simp] theorem State.waiting_setWaiting (s : State) (c : CallClass) (l : List Waiting) : (s.setWaiting c l).waiting c = l := by
  cases c <;> rfl

theorem State.waiting_setWaiting_ne (s : State) {c d : CallClass} (h : c ≠ d) (l : List Waiting) :
    (s.setWaiting c l).waiting d = s.waiting d := by
  cases c <;> cases d <;> first | rfl | exact absurd rfl h

/-! ### Records read after a write -/

@[simp] theorem State.sector_setSector_same (s : State) (t : SectorId) (r : Sector) : (s.setSector t r).sector t = r := by
  simp [State.sector]

theorem State.sector_setSector (s : State) (t u : SectorId) (r : Sector) :
    (s.setSector t r).sector u = if t = u then r else s.sector u := by
  simp [State.sector, Table.get_set]

@[simp] theorem State.sector_setSlot (s : State) (t u : SectorId) (n : SlotId) (x : Slot) :
    (s.setSlot t n x).sector u = s.sector u := rfl

@[simp] theorem State.slot_setSector (s : State) (t u : SectorId) (n : SlotId) (r : Sector) :
    (s.setSector t r).slot u n = s.slot u n := rfl

@[simp] theorem State.slot_setSlot_same (s : State) (t : SectorId) (n : SlotId) (x : Slot) :
    (s.setSlot t n x).slot t n = x := by
  simp [State.slot]

theorem State.slot_setSlot (s : State) (t u : SectorId) (n m : SlotId) (x : Slot) :
    (s.setSlot t n x).slot u m = if t = u ∧ n = m then x else s.slot u m := by
  by_cases h : t = u
  · subst h
    by_cases k : n = m
    · subst k; simp [State.slot]
    · simp [State.slot, k, Table.get_set_ne _ k]
  · simp [State.slot, h, Table.get_set_ne _ h]

@[simp] theorem State.slot_setEarmark (s : State) (tag : Tag) (m : Option Place) (t : SectorId) (n : SlotId) :
    (s.setEarmark tag m).slot t n = s.slot t n := rfl

@[simp] theorem State.sector_setEarmark (s : State) (tag : Tag) (m : Option Place) (t : SectorId) :
    (s.setEarmark tag m).sector t = s.sector t := rfl

@[simp] theorem State.slot_placeAction (s : State) (r : ActionReport) (t : SectorId) (n : SlotId) :
    (s.placeAction r).slot t n = s.slot t n := rfl

@[simp] theorem State.sector_placeAction (s : State) (r : ActionReport) (t : SectorId) :
    (s.placeAction r).sector t = s.sector t := rfl

@[simp] theorem State.slot_pushReply (s : State) (r : Reply) (t : SectorId) (n : SlotId) :
    (s.pushReply r).slot t n = s.slot t n := rfl

@[simp] theorem State.sector_pushReply (s : State) (r : Reply) (t : SectorId) :
    (s.pushReply r).sector t = s.sector t := rfl

/-! ### offerStatus -/

/-- Everything that offering a status report can do (R164): it replaces, joins, or is lost. -/
theorem State.offerStatus_cases (s : State) (r : StatusReport) :
    (∃ l, l.length = s.link.statusLane.length ∧ s.offerStatus r = { s with link := { s.link with statusLane := l } }) ∨
    (s.link.statusLane.length < 32 ∧
      s.offerStatus r = { s with link := { s.link with statusLane := s.link.statusLane ++ [r] } }) ∨
    (32 ≤ s.link.statusLane.length ∧
      s.offerStatus r = { s with link := { s.link with statusLost := bump s.link.statusLost } }) := by
  have len : ∀ l : List StatusReport, (replaceReport r l).length = l.length := by
    intro l
    induction l with
    | nil => rfl
    | cons o rest ih =>
      simp only [replaceReport]
      split <;> simp [ih]
  unfold State.offerStatus
  by_cases h : (s.link.statusLane.drop s.link.statusInTransmission).any (fun o => r.supersedes o) = true
  · refine .inl ⟨s.link.statusLane.take s.link.statusInTransmission ++
      replaceReport r (s.link.statusLane.drop s.link.statusInTransmission), ?_, by simp [h]⟩
    rw [List.length_append, len, ← List.length_append, List.take_append_drop]
  · refine .inr ?_
    by_cases k : s.link.statusLane.length < 32
    · exact .inl ⟨k, by simp [h, k, Config.statusPlaces]⟩
    · exact .inr ⟨by omega, by simp [h, k, Config.statusPlaces]⟩

@[simp] theorem State.offerStatus_localTime (s : State) (r : StatusReport) : (s.offerStatus r).localTime = s.localTime := by
  obtain ⟨l, _, h⟩ | ⟨_, h⟩ | ⟨_, h⟩ := s.offerStatus_cases r <;> rw [h]
@[simp] theorem State.offerStatus_inReset (s : State) (r : StatusReport) : (s.offerStatus r).inReset = s.inReset := by
  obtain ⟨l, _, h⟩ | ⟨_, h⟩ | ⟨_, h⟩ := s.offerStatus_cases r <;> rw [h]
@[simp] theorem State.offerStatus_screening (s : State) (r : StatusReport) : (s.offerStatus r).screening = s.screening := by
  obtain ⟨l, _, h⟩ | ⟨_, h⟩ | ⟨_, h⟩ := s.offerStatus_cases r <;> rw [h]
@[simp] theorem State.offerStatus_sectors (s : State) (r : StatusReport) : (s.offerStatus r).sectors = s.sectors := by
  obtain ⟨l, _, h⟩ | ⟨_, h⟩ | ⟨_, h⟩ := s.offerStatus_cases r <;> rw [h]
@[simp] theorem State.offerStatus_slots (s : State) (r : StatusReport) : (s.offerStatus r).slots = s.slots := by
  obtain ⟨l, _, h⟩ | ⟨_, h⟩ | ⟨_, h⟩ := s.offerStatus_cases r <;> rw [h]
@[simp] theorem State.offerStatus_emergency (s : State) (r : StatusReport) : (s.offerStatus r).emergency = s.emergency := by
  obtain ⟨l, _, h⟩ | ⟨_, h⟩ | ⟨_, h⟩ := s.offerStatus_cases r <;> rw [h]
@[simp] theorem State.offerStatus_priority (s : State) (r : StatusReport) : (s.offerStatus r).priority = s.priority := by
  obtain ⟨l, _, h⟩ | ⟨_, h⟩ | ⟨_, h⟩ := s.offerStatus_cases r <;> rw [h]
@[simp] theorem State.offerStatus_general (s : State) (r : StatusReport) : (s.offerStatus r).general = s.general := by
  obtain ⟨l, _, h⟩ | ⟨_, h⟩ | ⟨_, h⟩ := s.offerStatus_cases r <;> rw [h]
@[simp] theorem State.offerStatus_emergencyFull (s : State) (r : StatusReport) : (s.offerStatus r).emergencyFull = s.emergencyFull := by
  obtain ⟨l, _, h⟩ | ⟨_, h⟩ | ⟨_, h⟩ := s.offerStatus_cases r <;> rw [h]
@[simp] theorem State.offerStatus_serviceDeferred (s : State) (r : StatusReport) : (s.offerStatus r).serviceDeferred = s.serviceDeferred := by
  obtain ⟨l, _, h⟩ | ⟨_, h⟩ | ⟨_, h⟩ := s.offerStatus_cases r <;> rw [h]
@[simp] theorem State.offerStatus_passDeferred (s : State) (r : StatusReport) : (s.offerStatus r).passDeferred = s.passDeferred := by
  obtain ⟨l, _, h⟩ | ⟨_, h⟩ | ⟨_, h⟩ := s.offerStatus_cases r <;> rw [h]
@[simp] theorem State.offerStatus_retrySignal (s : State) (r : StatusReport) : (s.offerStatus r).retrySignal = s.retrySignal := by
  obtain ⟨l, _, h⟩ | ⟨_, h⟩ | ⟨_, h⟩ := s.offerStatus_cases r <;> rw [h]
@[simp] theorem State.offerStatus_passSignal (s : State) (r : StatusReport) : (s.offerStatus r).passSignal = s.passSignal := by
  obtain ⟨l, _, h⟩ | ⟨_, h⟩ | ⟨_, h⟩ := s.offerStatus_cases r <;> rw [h]
@[simp] theorem State.offerStatus_governor (s : State) (r : StatusReport) : (s.offerStatus r).governor = s.governor := by
  obtain ⟨l, _, h⟩ | ⟨_, h⟩ | ⟨_, h⟩ := s.offerStatus_cases r <;> rw [h]
@[simp] theorem State.offerStatus_repeatTable (s : State) (r : StatusReport) : (s.offerStatus r).repeatTable = s.repeatTable := by
  obtain ⟨l, _, h⟩ | ⟨_, h⟩ | ⟨_, h⟩ := s.offerStatus_cases r <;> rw [h]
@[simp] theorem State.offerStatus_settings (s : State) (r : StatusReport) : (s.offerStatus r).settings = s.settings := by
  obtain ⟨l, _, h⟩ | ⟨_, h⟩ | ⟨_, h⟩ := s.offerStatus_cases r <;> rw [h]
@[simp] theorem State.offerStatus_guardLock (s : State) (r : StatusReport) : (s.offerStatus r).guardLock = s.guardLock := by
  obtain ⟨l, _, h⟩ | ⟨_, h⟩ | ⟨_, h⟩ := s.offerStatus_cases r <;> rw [h]
@[simp] theorem State.offerStatus_choices (s : State) (r : StatusReport) : (s.offerStatus r).choices = s.choices := by
  obtain ⟨l, _, h⟩ | ⟨_, h⟩ | ⟨_, h⟩ := s.offerStatus_cases r <;> rw [h]
@[simp] theorem State.offerStatus_pending (s : State) (r : StatusReport) : (s.offerStatus r).pending = s.pending := by
  obtain ⟨l, _, h⟩ | ⟨_, h⟩ | ⟨_, h⟩ := s.offerStatus_cases r <;> rw [h]

end Sys2Proof.Machine
end

