-- ==== Sys2Proof/Laws/Requests.lean ====
section
/-! SUPPORT. What a request command does with its frame (R180, R181): said once for all of them. -/

namespace Sys2Proof.Machine

variable {s : State} {f : Frame} {decide : State → State}

/-- The head of the request queue is decided on the state without it. -/
theorem State.request_takes (h : s.TakesFrame f) : s.request (some f) decide = decide s.afterTaking := by
  obtain ⟨hr, hl, hq⟩ := h
  have room : s.replyRoom = true := by simp [State.replyRoom, Config.replyPlaces, hl]
  cases q : s.link.requestQueue with
  | nil => simp [q] at hq
  | cons g rest =>
    have e : g = f := by simpa [q] using hq
    have : s.taken f = some s.afterTaking := by simp [State.taken, room, q, e, State.afterTaking]
    simp [State.request, hr, this]

/-- A frame that arrives at an empty queue with room for its reply is decided at once, and ends any noise run. -/
theorem State.request_takesOnArrival (h : s.TakesOnArrival) :
    s.request (some f) decide = decide { s with link := { s.link with noiseRun := 0 } } := by
  obtain ⟨hr, hl, hq⟩ := h
  have room : s.replyRoom = true := by simp [State.replyRoom, Config.replyPlaces, hl]
  simp [State.request, hr, State.taken, room, hq]

/-- A part held in reset takes no frame. -/
theorem State.request_inReset (h : s.inReset = true) (f : Option Frame) : s.request f decide = s := by
  simp [State.request, h]

/-- A frame that the decoder does not take at this instant arrives at the request queue. -/
theorem State.request_waits (hr : s.inReset = false) (h : ¬s.TakesFrame f) (h' : ¬s.TakesOnArrival) :
    s.request (some f) decide = s.arrive f := by
  have none : s.taken f = none := by
    unfold State.taken
    split
    · rename_i room
      have hl : s.link.replyQueue.length < 8 := by simpa [State.replyRoom, Config.replyPlaces] using room
      cases q : s.link.requestQueue with
      | nil => exact absurd ⟨hr, hl, q⟩ h'
      | cons g rest =>
        have ne : g ≠ f := fun e => h ⟨hr, hl, by simp [q, e]⟩
        simp [ne]
    · rfl
  simp [State.request, hr, none]

/-- Everything that a request command can do. -/
theorem State.request_cases (s : State) (f : Frame) (decide : State → State) :
    (s.inReset = true ∧ s.request (some f) decide = s) ∨
    (s.TakesFrame f ∧ s.request (some f) decide = decide s.afterTaking) ∨
    (s.TakesOnArrival ∧ s.request (some f) decide = decide { s with link := { s.link with noiseRun := 0 } }) ∨
    (s.inReset = false ∧ ¬s.TakesFrame f ∧ ¬s.TakesOnArrival ∧ s.request (some f) decide = s.arrive f) := by
  by_cases hr : s.inReset = true
  · exact .inl ⟨hr, State.request_inReset hr _⟩
  · have hr' : s.inReset = false := by simpa using hr
    by_cases h : s.TakesFrame f
    · exact .inr (.inl ⟨h, State.request_takes h⟩)
    · by_cases h' : s.TakesOnArrival
      · exact .inr (.inr (.inl ⟨h', State.request_takesOnArrival h'⟩))
      · exact .inr (.inr (.inr ⟨hr', h, h', State.request_waits hr' h h'⟩))

/-- A good frame that arrives joins the queue or is discarded, counted in OVERRUN (R180). -/
theorem State.arrive_cases (s : State) (f : Frame) :
    (s.link.requestQueue.length < 8 ∧
      s.arrive f = { s with link := { s.link with noiseRun := 0, requestQueue := s.link.requestQueue ++ [f] } }) ∨
    (8 ≤ s.link.requestQueue.length ∧
      s.arrive f = { s with link := { s.link with noiseRun := 0, overrunCount := bump s.link.overrunCount } }) := by
  by_cases h : s.link.requestQueue.length < 8
  · exact .inl ⟨h, by simp [State.arrive, Config.requestPlaces, h]⟩
  · exact .inr ⟨by omega, by simp [State.arrive, Config.requestPlaces, h]⟩

/-- An event of a part that is not in reset has its effect; of one in reset, none (R198). -/
theorem State.live_cases (s : State) (effect : State → State) :
    (s.inReset = true ∧ s.live effect = s) ∨ (s.inReset = false ∧ s.live effect = effect s) := by
  cases h : s.inReset
  · exact .inr ⟨rfl, by simp [State.live, h]⟩
  · exact .inl ⟨rfl, by simp [State.live, h]⟩

/-- A counter that stays at its top rises by one below it and never passes it. -/
theorem bump_cases (n : Nat) : (n < 65535 ∧ bump n = n + 1) ∨ (65535 ≤ n ∧ bump n = n) := by
  by_cases h : n < 65535
  · exact .inl ⟨h, by simp [bump, Config.counterTop, h]⟩
  · exact .inr ⟨by omega, by simp [bump, Config.counterTop, h]⟩

end Sys2Proof.Machine
end

