-- ==== Sys2Proof/Laws/Takes.lean ====
section
/-! SUPPORT. What `exec` answers for each request command whose frame the decoder takes: one lemma per request, and the one that
says that every request command goes through `State.request`. -/

namespace Sys2Proof.Machine

variable {s : State}

/-- A command that is a request decides its frame where the decoder takes it. -/
theorem takes_next {i : Instr} {d : State → State} (he : exec i s = .next (s.request (frameOf i) d)) (h : s.Takes i) :
    exec i s = .next (d s.afterTaking) := by
  obtain ⟨f, hf, ht⟩ := h
  rw [he, hf, State.request_takes ht]

/-- Every command with a frame is a request: one decision, whatever the state. -/
theorem exec_request {i : Instr} {f : Frame} (h : frameOf i = some f) :
    ∃ d, ∀ s, exec i s = .next (s.request (some f) d) := by
  cases i <;> cases h <;> exact ⟨_, fun _ => rfl⟩

theorem exec_admitCall_takes {b : Body AdmitFields} (h : s.Takes (.admitCall b)) :
    exec (.admitCall b) s = .next (decideBody .admitCall b decideAdmit s.afterTaking) := takes_next rfl h

theorem exec_release_takes {b : Body Tag} (h : s.Takes (.release b)) :
    exec (.release b) s = .next (decideBody .release b decideRelease s.afterTaking) := takes_next rfl h

theorem exec_cancel_takes {b : Body Tag} (h : s.Takes (.cancel b)) :
    exec (.cancel b) s = .next (decideBody .cancel b decideCancel s.afterTaking) := takes_next rfl h

theorem exec_sectorSet_takes {b : Body SectorSetFields} (h : s.Takes (.sectorSet b)) :
    exec (.sectorSet b) s = .next (decideBody .sectorSet b decideSectorSet s.afterTaking) := takes_next rfl h

theorem exec_sectorDrain_takes {b : Body Octet} (h : s.Takes (.sectorDrain b)) :
    exec (.sectorDrain b) s = .next (decideBody .sectorDrain b decideSectorDrain s.afterTaking) := takes_next rfl h

theorem exec_sectorResume_takes {b : Body Octet} (h : s.Takes (.sectorResume b)) :
    exec (.sectorResume b) s = .next (decideBody .sectorResume b decideSectorResume s.afterTaking) := takes_next rfl h

theorem exec_sectorDisable_takes {b : Body Octet} (h : s.Takes (.sectorDisable b)) :
    exec (.sectorDisable b) s = .next (decideBody .sectorDisable b decideSectorDisable s.afterTaking) := takes_next rfl h

theorem exec_screenSet_takes {b : Body ScreenSetFields} (h : s.Takes (.screenSet b)) :
    exec (.screenSet b) s = .next (decideBody .screenSet b decideScreenSet s.afterTaking) := takes_next rfl h

theorem exec_screenHold_takes {b : Body Octet} (h : s.Takes (.screenHold b)) :
    exec (.screenHold b) s = .next (decideBody .screenHold b decideScreenHold s.afterTaking) := takes_next rfl h

theorem exec_screenFree_takes {b : Body Unit} (h : s.Takes (.screenFree b)) :
    exec (.screenFree b) s = .next (decideBody .screenFree b (fun _ s1 => decideScreenFree s1) s.afterTaking) := takes_next rfl h

theorem exec_levelSet_takes {b : Body LevelSetFields} (h : s.Takes (.levelSet b)) :
    exec (.levelSet b) s = .next (decideBody .levelSet b decideLevelSet s.afterTaking) := takes_next rfl h

theorem exec_timerSet_takes {b : Body TimerSetFields} (h : s.Takes (.timerSet b)) :
    exec (.timerSet b) s = .next (decideBody .timerSet b decideTimerSet s.afterTaking) := takes_next rfl h

theorem exec_surgeOpen_takes {b : Body SurgeOpenFields} (h : s.Takes (.surgeOpen b)) :
    exec (.surgeOpen b) s = .next (decideBody .surgeOpen b decideSurgeOpen s.afterTaking) := takes_next rfl h

theorem exec_surgeExtend_takes {b : Body (BitVec 16)} (h : s.Takes (.surgeExtend b)) :
    exec (.surgeExtend b) s = .next (decideBody .surgeExtend b decideSurgeExtend s.afterTaking) := takes_next rfl h

theorem exec_surgeClose_takes {b : Body Unit} (h : s.Takes (.surgeClose b)) :
    exec (.surgeClose b) s = .next (decideBody .surgeClose b (fun _ s1 => decideSurgeClose s1) s.afterTaking) := takes_next rfl h

theorem exec_guardLock_takes {b : Body Unit} (h : s.Takes (.guardLock b)) :
    exec (.guardLock b) s =
      .next (decideBody .guardLock b
        (fun _ s1 => ({ s1 with guardLock := true } : State).pushReply (.accepted .guardLock)) s.afterTaking) :=
  takes_next rfl h

theorem exec_audit_takes {b : Body AuditFields} (h : s.Takes (.audit b)) :
    exec (.audit b) s = .next (decideBody .audit b decideAudit s.afterTaking) := takes_next rfl h

theorem exec_queryStatus_takes {b : Body Unit} (h : s.Takes (.queryStatus b)) :
    exec (.queryStatus b) s =
      .next (decideBody .queryStatus b (fun _ s1 => s1.pushReply (.status s1.statusInfo)) s.afterTaking) := takes_next rfl h

theorem exec_querySector_takes {b : Body Octet} (h : s.Takes (.querySector b)) :
    exec (.querySector b) s = .next (decideBody .querySector b decideQuerySector s.afterTaking) := takes_next rfl h

theorem exec_querySlots_takes {b : Body QuerySlotsFields} (h : s.Takes (.querySlots b)) :
    exec (.querySlots b) s = .next (decideBody .querySlots b decideQuerySlots s.afterTaking) := takes_next rfl h

theorem exec_queryList_takes {b : Body QueryListFields} (h : s.Takes (.queryList b)) :
    exec (.queryList b) s = .next (decideBody .queryList b decideQueryList s.afterTaking) := takes_next rfl h

theorem exec_queryScreen_takes {b : Body Octet} (h : s.Takes (.queryScreen b)) :
    exec (.queryScreen b) s = .next (decideBody .queryScreen b decideQueryScreen s.afterTaking) := takes_next rfl h

theorem exec_queryLevels_takes {b : Body Unit} (h : s.Takes (.queryLevels b)) :
    exec (.queryLevels b) s =
      .next (decideBody .queryLevels b
        (fun _ s1 => s1.pushReply (.levelsInfo s1.governor.activePeriod s1.governor.stagedPeriod s1.governor.activeTable
          s1.governor.stagedTable)) s.afterTaking) :=
  takes_next rfl h

theorem exec_restart_takes {b : Body Unit} (h : s.Takes (.restart b)) :
    exec (.restart b) s =
      .next (decideBody .restart b
        (fun _ s1 => s1.restart.pushReply (.done s1.emergency.length s1.priority.length s1.general.length)) s.afterTaking) :=
  takes_next rfl h

theorem exec_unknownKind_takes {k : Octet} {body : List Octet} (h : s.Takes (.unknownKind k body)) :
    exec (.unknownKind k body) s = .next (s.afterTaking.pushReply (.reject none .unknownKind k 0)) := takes_next rfl h

end Sys2Proof.Machine
end

