-- ==== Sys2Proof/Laws/Terms.lean ====
section
/-! SUPPORT. The terms of the statements in a form that evaluates: when a request is taken, what tags are held, and the laws of
records, slots and ranges, each from a condition that `decide` can settle on a state written out. -/

namespace Sys2Proof.Machine

variable {s : State}

theorem mem_allPlaces (t : SectorId) (n : SlotId) : ((t, n) : Place) ∈ allPlaces := by
  have every : ∀ t : SectorId, ∀ n : SlotId, ((t, n) : Place) ∈ allPlaces := by decide +kernel
  exact every t n

theorem takes_of {i : Instr} (h : s.inReset = false ∧ s.link.replyQueue.length < 8 ∧ frameOf i ≠ none ∧
    s.link.requestQueue.head? = frameOf i) : s.Takes i := by
  obtain ⟨hr, hl, hf, hq⟩ := h
  cases e : frameOf i with
  | none => exact absurd e hf
  | some f => exact ⟨f, e, hr, hl, by rw [hq, e]⟩

/-- A waiting entry with a tag is found by it, in whichever list it stands. -/
theorem entryWith_isSome (s : State) (tag : Tag) :
    (s.entryWith tag).isSome = true ↔ ∃ e ∈ s.emergency ++ s.priority ++ s.general, e.tag = tag := by
  have found : ∀ c, (∃ e, s.entryIn c tag = some e) ↔ ∃ e ∈ s.waiting c, e.tag = tag := by
    intro c
    rw [← Option.isSome_iff_exists, State.entryIn, List.find?_isSome]
    simp
  have any : (s.entryWith tag).isSome = true ↔ ∃ c e, s.entryIn c tag = some e := by
    unfold State.entryWith
    constructor
    · intro h
      split at h
      · rename_i e he; exact ⟨_, e, he⟩
      · split at h
        · rename_i e he; exact ⟨_, e, he⟩
        · split at h
          · rename_i e he; exact ⟨_, e, he⟩
          · simp at h
    · rintro ⟨c, e, he⟩
      split
      · rfl
      · split
        · rfl
        · split
          · rfl
          · cases c <;> simp_all
  rw [any]
  constructor
  · rintro ⟨c, h⟩
    obtain ⟨e, he, ht⟩ := (found c).mp h
    cases c <;> exact ⟨e, by simp_all [State.waiting], ht⟩
  · rintro ⟨e, he, ht⟩
    simp only [List.mem_append] at he
    rcases he with (he | he) | he
    · exact ⟨.emergency, (found _).mpr ⟨e, he, ht⟩⟩
    · exact ⟨.priority, (found _).mpr ⟨e, he, ht⟩⟩
    · exact ⟨.general, (found _).mpr ⟨e, he, ht⟩⟩

/-- A held tag is one that the duplicate-tag check finds (R38, R39). -/
theorem holds_iff (s : State) (tag : Tag) : s.Holds tag ↔ s.tagHeld tag = true := by
  have slots : (∃ t n c, (s.slot t n).call? = some c ∧ c.tag = tag) ↔ (s.slotWith tag).isSome = true := by
    rw [State.slotWith, List.find?_isSome]
    constructor
    · rintro ⟨t, n, c, hc, ht⟩
      exact ⟨(t, n), mem_allPlaces t n, by simp [hc, ht]⟩
    · rintro ⟨p, -, hp⟩
      simp only [decide_eq_true_eq, Option.map_eq_some_iff] at hp
      obtain ⟨c, hc, ht⟩ := hp
      exact ⟨p.1, p.2, c, hc, ht⟩
  rw [State.Holds, State.tagHeld, Bool.or_eq_true, entryWith_isSome, slots]

theorem eligibleFor_iff (s : State) (e : Waiting) (t : SectorId) : s.EligibleFor e t ↔ s.eligible e t = true := by
  simp [State.EligibleFor, State.eligible]

theorem emergencyStands_iff (s : State) (t : SectorId) :
    s.emergencyStands t = true ↔ ∃ e ∈ s.emergency, s.EligibleFor e t := by
  simp [State.emergencyStands, eligibleFor_iff]

/-- The lowest FREE slot is the one that a direct grant finds (R43). -/
theorem LowestFree.find {t : SectorId} {n : SlotId} (h : s.LowestFree t n) : s.lowestFree t = some n := by
  obtain ⟨free, lower⟩ := h
  have parts : ∀ n : SlotId, allSlots = allSlots.take n.val ++ n :: allSlots.drop (n.val + 1) ∧
      ∀ m ∈ allSlots.take n.val, m < n := by decide +kernel
  obtain ⟨whole, below⟩ := parts n
  rw [State.lowestFree, List.find?_eq_some_iff_append]
  refine ⟨by simp [Slot.isFree, free], _, _, whole, fun m hm => ?_⟩
  simp [Slot.isFree, lower m (below m hm)]

/-- The vacate part of a slot (R5). -/
def Slot.vacate? : Slot → Option Vacate
  | .vacating _ v => some v
  | _ => none

/-- The laws of records as a condition that evaluates, `l` listing every slot with a call part. -/
def State.pairedOver (s : State) (l : List (Place × Slot)) : Bool :=
  decide (∀ t n, (s.slot t n).call? = none ∨ ((t, n), s.slot t n) ∈ l) && decide s.waitingTags.Nodup &&
    decide (∀ e ∈ s.emergency ++ s.priority ++ s.general, e.tag ≠ 0) &&
    decide (∀ x ∈ l, ∀ c ∈ x.2.call?, c.tag ≠ 0 ∧ c.tag ∉ s.waitingTags ∧
      (c.cls = .emergency → c.preemptible = false ∧ x.2 = .active c)) &&
    decide (∀ x ∈ l, ∀ c ∈ x.2.call?, ∀ y ∈ l, ∀ d ∈ y.2.call?, c.tag = d.tag → x.1 = y.1) &&
    decide (∀ e ∈ s.emergency, e.cls = .emergency ∧ e.preemptible = false) &&
    decide (∀ e ∈ s.emergency, ∀ f ∈ s.emergency, e.key = f.key → e.key ≠ 0 → e.tag = f.tag) &&
    decide (∀ e ∈ s.emergency, ∀ p ∈ e.earmark, (s.slot p.1 p.2).beneficiary? = some e.tag) &&
    decide (∀ e ∈ s.emergency, ∀ x ∈ l, x.2.beneficiary? = some e.tag → e.earmark = some x.1) &&
    decide (∀ e ∈ s.priority, e.cls = .priority ∧ e.earmark = none) &&
    decide (∀ e ∈ s.general, e.cls = .general ∧ e.earmark = none) &&
    l.all (fun x => x.2.beneficiary?.all (fun b => s.emergency.any (fun e => decide (e.tag = b))))

/-- The laws of records hold where that condition does. -/
theorem recordsPaired_of (l : List (Place × Slot)) (h : s.pairedOver l = true) : s.RecordsPaired := by
  simp only [State.pairedOver, Bool.and_eq_true, decide_eq_true_eq] at h
  obtain ⟨⟨⟨⟨⟨⟨⟨⟨⟨⟨⟨whole, tags⟩, nonzero⟩, calls⟩, distinct⟩, entries⟩, keys⟩, marks⟩, marked⟩, priority⟩, general⟩,
    beneficiaries⟩ := h
  have listed : ∀ t n c, (s.slot t n).call? = some c → ((t, n), s.slot t n) ∈ l := fun t n c hc =>
    (whole t n).resolve_left (by simp [hc])
  have owned : ∀ t n b, (s.slot t n).beneficiary? = some b → ((t, n), s.slot t n) ∈ l := by
    intro t n b hb
    cases e : s.slot t n with
    | vacating c v => rw [← e]; exact listed t n c (by simp [e, Slot.call?])
    | _ => simp [e, Slot.beneficiary?] at hb
  exact
    { waitingTags := tags
      waitingTagNonzero := nonzero
      slotTagNonzero := fun t n c hc =>
        ⟨(calls _ (listed t n c hc) c hc).1, (calls _ (listed t n c hc) c hc).2.1⟩
      slotTags := fun t n c u m d hc hd he => Prod.mk.inj (distinct _ (listed t n c hc) c hc _ (listed u m d hd) d hd he)
      emergencyClass := entries
      priorityClass := priority
      generalClass := general
      keys := keys
      earmarks := fun e he p => ⟨fun hp => marks e he p hp, fun hb => marked e he _ (owned p.1 p.2 _ hb) hb⟩
      beneficiaries := fun t n b hb => by
        have := List.all_eq_true.mp beneficiaries _ (owned t n b hb)
        simpa [hb] using this
      emergencyCalls := fun t n c hc => (calls _ (listed t n c hc) c hc).2.2 }

/-- The laws of slots hold where their computable form does. -/
theorem slotsLawful_of
    (h : (∀ t n, ((s.slot t n).call? = none →
        (s.slot t n = .free ↔ n.val < (s.sector t).capacity ∧ (s.sector t).state ≠ .disabled)) ∧
        ((s.slot t n).earmarked = true → (s.sector t).state = .opened ∧ n.val < (s.sector t).capacity)) ∧
      ∀ t, ((s.sector t).state = .disabled ∨ (s.sector t).state = .drained → s.occupancy t = 0) ∧
        ((s.sector t).state = .draining → 0 < s.occupancy t)) : s.SlotsLawful :=
  ⟨fun t n => (h.1 t n).1, fun t => (h.2 t).1, fun t => (h.2 t).2, fun t n => (h.1 t n).2⟩

/-- A sector record is in range where its computable form says so. -/
theorem sectorInRange_of {t : SectorId} {r : Sector}
    (h : r.capacity ≤ 24 ∧ r.generalGuard ≤ 24 ∧ r.priorityGuard ≤ r.generalGuard ∧ r.neighbours.length ≤ 3 ∧
      r.neighbours.Nodup ∧ t ∉ r.neighbours ∧ (1 ≤ r.weight ∧ r.weight ≤ 16) ∧ (1 ≤ r.depth ∧ r.depth ≤ 255) ∧
      r.tokens ≤ r.depth ∧ r.pressure ≤ 4095) : r.InRange t := by
  obtain ⟨h1, h2, h3, h4, h5, h6, h7, h8, h9, h10⟩ := h
  exact ⟨h1, h2, h3, h4, h5, h6, h7, h8, h9, h10⟩

end Sys2Proof.Machine
end

