-- ==== Sys2Proof/Laws/Walks.lean ====
section
/-! SUPPORT. What the walks and searches of the arbiter, the preemption unit and the governor leave unchanged, and, for each shared
operation, everything it can do. -/

namespace Sys2Proof.Machine

/-! ## What admission work leaves alone -/

/-- The state that admission work (service, preemption, withdrawal, the dropping of earmarks) never writes. -/
structure State.Fixed (s t : State) : Prop where
  localTime : t.localTime = s.localTime
  inReset : t.inReset = s.inReset
  screening : t.screening = s.screening
  governor : t.governor = s.governor
  emergencyFull : t.emergencyFull = s.emergencyFull
  repeatTable : t.repeatTable = s.repeatTable
  settings : t.settings = s.settings
  guardLock : t.guardLock = s.guardLock
  choices : t.choices = s.choices
  pending : t.pending = s.pending
  retrySignal : t.retrySignal = s.retrySignal
  passSignal : t.passSignal = s.passSignal
  replyQueue : t.link.replyQueue = s.link.replyQueue
  requestQueue : t.link.requestQueue = s.link.requestQueue

theorem State.Fixed.refl (s : State) : s.Fixed s := by constructor <;> rfl

theorem State.Fixed.trans {s t u : State} (a : s.Fixed t) (b : t.Fixed u) : s.Fixed u where
  localTime := b.localTime.trans a.localTime
  inReset := b.inReset.trans a.inReset
  screening := b.screening.trans a.screening
  governor := b.governor.trans a.governor
  emergencyFull := b.emergencyFull.trans a.emergencyFull
  repeatTable := b.repeatTable.trans a.repeatTable
  settings := b.settings.trans a.settings
  guardLock := b.guardLock.trans a.guardLock
  choices := b.choices.trans a.choices
  pending := b.pending.trans a.pending
  retrySignal := b.retrySignal.trans a.retrySignal
  passSignal := b.passSignal.trans a.passSignal
  replyQueue := b.replyQueue.trans a.replyQueue
  requestQueue := b.requestQueue.trans a.requestQueue

theorem State.setSector_fixed (s : State) (t : SectorId) (r : Sector) : s.Fixed (s.setSector t r) := by constructor <;> rfl

theorem State.setSlot_fixed (s : State) (t : SectorId) (n : SlotId) (x : Slot) : s.Fixed (s.setSlot t n x) := by
  constructor <;> rfl

theorem State.setEarmark_fixed (s : State) (tag : Tag) (m : Option Place) : s.Fixed (s.setEarmark tag m) := by
  constructor <;> rfl

theorem State.updateEmergency_fixed (s : State) (tag : Tag) (f : Waiting → Waiting) :
    s.Fixed (s.updateEmergency tag f) := by
  constructor <;> rfl

theorem State.placeAction_fixed (s : State) (r : ActionReport) : s.Fixed (s.placeAction r) := by constructor <;> rfl

theorem State.setWaiting_fixed (s : State) (c : CallClass) (l : List Waiting) : s.Fixed (s.setWaiting c l) := by
  constructor <;> simp

theorem State.offerStatus_fixed (s : State) (r : StatusReport) : s.Fixed (s.offerStatus r) := by
  obtain ⟨l, _, h⟩ | ⟨_, h⟩ | ⟨_, h⟩ := s.offerStatus_cases r <;> rw [h] <;> constructor <;> rfl

/-! ## Earmarks -/

/-- Everything that dropping the earmark on a slot can do (R111). -/
theorem State.dropEarmark_cases (s : State) (t : SectorId) (n : SlotId) :
    (∃ c v b, s.slot t n = .vacating c v ∧ v.beneficiary = some b ∧
      s.dropEarmark t n = (s.setSlot t n (.vacating c { v with beneficiary := none })).setEarmark b none) ∨
    ((s.slot t n).beneficiary? = none ∧ s.dropEarmark t n = s) := by
  unfold State.dropEarmark
  split
  · rename_i c v h
    split
    · rename_i b hb
      exact .inl ⟨c, v, b, h, hb, rfl⟩
    · rename_i hb
      exact .inr ⟨by simp [h, Slot.beneficiary?, hb], rfl⟩
  · rename_i h
    refine .inr ⟨?_, rfl⟩
    cases k : s.slot t n with
    | vacating c v => exact absurd k (h c v)
    | _ => rfl

theorem State.dropEarmark_fixed (s : State) (t : SectorId) (n : SlotId) : s.Fixed (s.dropEarmark t n) := by
  obtain ⟨c, v, b, _, _, h⟩ | ⟨_, h⟩ := s.dropEarmark_cases t n
  · rw [h]
    exact (s.setSlot_fixed t n _).trans (State.setEarmark_fixed _ _ _)
  · rw [h]
    exact .refl s

theorem dropEarmarks_fixed (l : List Place) (s : State) : s.Fixed (dropEarmarks l s) := by
  induction l generalizing s with
  | nil => exact .refl s
  | cons p rest ih => exact (s.dropEarmark_fixed p.1 p.2).trans (ih _)

theorem State.dropEarmarkOf_fixed (s : State) (e : Waiting) : s.Fixed (s.dropEarmarkOf e) := by
  unfold State.dropEarmarkOf
  split
  · exact s.dropEarmark_fixed _ _
  · exact .refl s

/-- Everything that withdrawing an entry's preemption can do (R103). -/
theorem State.withdraw_cases (s : State) (e : Waiting) :
    (e.earmark = none ∧ s.withdraw e = s) ∨
    (∃ t n c v, e.earmark = some (t, n) ∧ s.slot t n = .vacating c v ∧
      s.withdraw e = ((s.setSlot t n (.active c)).setEarmark e.tag none).placeAction (.withdraw c.tag (t, n))) ∨
    (∃ t n, e.earmark = some (t, n) ∧ (∀ c v, s.slot t n ≠ .vacating c v) ∧ s.withdraw e = s.setEarmark e.tag none) := by
  unfold State.withdraw
  split
  · exact .inl ⟨‹_›, rfl⟩
  · rename_i t n h
    split
    · rename_i c v k
      exact .inr (.inl ⟨t, n, c, v, h, k, rfl⟩)
    · rename_i k
      exact .inr (.inr ⟨t, n, h, k, rfl⟩)

theorem State.withdraw_fixed (s : State) (e : Waiting) : s.Fixed (s.withdraw e) := by
  obtain ⟨_, h⟩ | ⟨t, n, c, v, _, _, h⟩ | ⟨t, n, _, _, h⟩ := s.withdraw_cases e <;> rw [h]
  · exact .refl s
  · exact ((s.setSlot_fixed t n _).trans (State.setEarmark_fixed _ _ _)).trans (State.placeAction_fixed _ _)
  · exact s.setEarmark_fixed _ _

/-! ## The victim-search pass -/

theorem State.startPreemption_fixed (s : State) (e : Waiting) (t : SectorId) (n : SlotId) (c : Call) :
    s.Fixed (s.startPreemption e t n c) :=
  ((s.setSlot_fixed t n _).trans (State.setEarmark_fixed _ _ _)).trans (State.placeAction_fixed _ _)

/-- Everything that one visit of a pass can do (R93): pass over, find none, stop for room, or start a preemption. -/
theorem passWalk_cons_cases (e : Waiting) (rest : List Waiting) (s : State) :
    (e.earmark.isSome ∧ passWalk (e :: rest) s = passWalk rest s) ∨
    (e.earmark = none ∧ s.searchVictim e = none ∧ passWalk (e :: rest) s = passWalk rest s) ∨
    (∃ v, e.earmark = none ∧ s.searchVictim e = some v ∧ s.freePlaces = 0 ∧
      passWalk (e :: rest) s = { s with passDeferred := true }) ∨
    (∃ t n c, e.earmark = none ∧ s.searchVictim e = some (t, n, c) ∧ s.freePlaces ≠ 0 ∧
      passWalk (e :: rest) s = passWalk rest (s.startPreemption e t n c)) := by
  cases h : e.earmark with
  | some p => exact .inl ⟨rfl, by simp [passWalk, h]⟩
  | none =>
    cases k : s.searchVictim e with
    | none => exact .inr (.inl ⟨rfl, rfl, by simp [passWalk, h, k]⟩)
    | some v =>
      obtain ⟨t, n, c⟩ := v
      by_cases r : s.freePlaces = 0
      · exact .inr (.inr (.inl ⟨_, rfl, rfl, r, by simp [passWalk, h, k, r]⟩))
      · exact .inr (.inr (.inr ⟨t, n, c, rfl, rfl, r, by simp [passWalk, h, k, r]⟩))

theorem passWalk_fixed (l : List Waiting) (s : State) : s.Fixed (passWalk l s) := by
  induction l generalizing s with
  | nil => exact .refl s
  | cons e rest ih =>
    obtain ⟨_, h⟩ | ⟨_, _, h⟩ | ⟨_, _, _, _, h⟩ | ⟨t, n, c, _, _, _, h⟩ := passWalk_cons_cases e rest s <;> rw [h]
    · exact ih s
    · exact ih s
    · constructor <;> rfl
    · exact (s.startPreemption_fixed e t n c).trans (ih _)

theorem State.pass_fixed (s : State) : s.Fixed s.pass := by
  have h : s.Fixed { s with passDeferred := false } := by constructor <;> rfl
  exact h.trans (passWalk_fixed _ _)

theorem State.passIf_fixed (s : State) (b : Bool) : s.Fixed (s.passIf b) := by
  cases b
  · exact .refl s
  · exact s.pass_fixed

/-! ## Freed-slot service -/

theorem State.grantWaiting_fixed (s : State) (t : SectorId) (n : SlotId) (e : Waiting) : s.Fixed (s.grantWaiting t n e) :=
  ((s.setSlot_fixed t n _).trans (State.setWaiting_fixed _ _ _)).trans (State.placeAction_fixed _ _)

/-- Everything that serving a slot can do (R67 to R71): nothing, a deferral, or a grant with the withdrawal before it. -/
theorem State.serveSlot_cases (s : State) (t : SectorId) (n : SlotId) :
    (¬(s.slot t n = .free ∧ s.isOpen t = true) ∧ s.serveSlot t n = ⟨s, false⟩) ∨
    (s.slot t n = .free ∧ s.isOpen t = true ∧ s.candidate t = none ∧ s.serveSlot t n = ⟨s, false⟩) ∨
    (∃ e, s.slot t n = .free ∧ s.isOpen t = true ∧ s.candidate t = some e ∧ s.freePlaces < placesNeeded e ∧
      s.serveSlot t n = ⟨{ s with serviceDeferred := true }, true⟩) ∨
    (∃ e, s.slot t n = .free ∧ s.isOpen t = true ∧ s.candidate t = some e ∧ placesNeeded e ≤ s.freePlaces ∧
      s.serveSlot t n = ⟨(s.withdraw e).grantWaiting t n e, false⟩) := by
  by_cases h : s.slot t n = .free ∧ s.isOpen t = true
  · cases k : s.candidate t with
    | none => exact .inr (.inl ⟨h.1, h.2, rfl, by simp [State.serveSlot, Slot.isFree, h, k]⟩)
    | some e =>
      by_cases r : s.freePlaces < placesNeeded e
      · exact .inr (.inr (.inl ⟨e, h.1, h.2, rfl, r, by simp [State.serveSlot, Slot.isFree, h, k, r]⟩))
      · exact .inr (.inr (.inr ⟨e, h.1, h.2, rfl, by omega, by simp [State.serveSlot, Slot.isFree, h, k, r]⟩))
  · exact .inl ⟨h, by
      unfold State.serveSlot
      rw [if_neg]
      simpa [Slot.isFree] using h⟩

theorem State.serveSlot_fixed (s : State) (t : SectorId) (n : SlotId) : s.Fixed (s.serveSlot t n).state := by
  obtain ⟨_, h⟩ | ⟨_, _, _, h⟩ | ⟨e, _, _, _, _, h⟩ | ⟨e, _, _, _, _, h⟩ := s.serveSlot_cases t n <;> rw [h]
  · exact .refl s
  · exact .refl s
  · constructor <;> rfl
  · exact (s.withdraw_fixed e).trans (State.grantWaiting_fixed _ _ _ _)

theorem serveWalk_fixed (l : List Place) (s : State) : s.Fixed (serveWalk l s) := by
  induction l generalizing s with
  | nil => exact .refl s
  | cons p rest ih =>
    simp only [serveWalk]
    split
    · exact s.serveSlot_fixed p.1 p.2
    · exact (s.serveSlot_fixed p.1 p.2).trans (ih _)

theorem State.drainedTest_fixed (s : State) (t : SectorId) : s.Fixed (s.drainedTest t) := by
  unfold State.drainedTest
  split
  · exact (s.setSector_fixed t _).trans (State.offerStatus_fixed _ _)
  · exact .refl s

theorem State.freeSlot_fixed (s : State) (t : SectorId) (n : SlotId) : s.Fixed (s.freeSlot t n) := by
  simp only [State.freeSlot]
  split
  · exact (s.setSlot_fixed t n _).trans (State.serveSlot_fixed _ _ _)
  · exact (s.setSlot_fixed t n _).trans (State.drainedTest_fixed _ _)
  · exact s.setSlot_fixed t n _
  · exact s.setSlot_fixed t n _

/-- Everything that releasing a VACATING slot can do (R99 to R101). -/
theorem State.releaseVacating_cases (s : State) (t : SectorId) (n : SlotId) (v : Vacate) :
    (v.beneficiary = none ∧ s.releaseVacating t n v = s.freeSlot t n) ∨
    (∃ b, v.beneficiary = some b ∧ s.entryIn .emergency b = none ∧ s.releaseVacating t n v = s.freeSlot t n) ∨
    (∃ b e, v.beneficiary = some b ∧ s.entryIn .emergency b = some e ∧ s.freePlaces = 0 ∧
      s.releaseVacating t n v = (s.setEarmark b none).freeSlot t n) ∨
    (∃ b e, v.beneficiary = some b ∧ s.entryIn .emergency b = some e ∧ s.freePlaces ≠ 0 ∧
      s.releaseVacating t n v = s.grantWaiting t n e) := by
  cases h : v.beneficiary with
  | none => exact .inl ⟨rfl, by simp [State.releaseVacating, h]⟩
  | some b =>
    cases k : s.entryIn .emergency b with
    | none => exact .inr (.inl ⟨b, rfl, k, by simp [State.releaseVacating, h, k]⟩)
    | some e =>
      by_cases r : s.freePlaces = 0
      · exact .inr (.inr (.inl ⟨b, e, rfl, k, r, by simp [State.releaseVacating, h, k, r]⟩))
      · exact .inr (.inr (.inr ⟨b, e, rfl, k, r, by simp [State.releaseVacating, h, k, r]⟩))

theorem State.releaseVacating_fixed (s : State) (t : SectorId) (n : SlotId) (v : Vacate) :
    s.Fixed (s.releaseVacating t n v) := by
  obtain ⟨_, h⟩ | ⟨b, _, _, h⟩ | ⟨b, e, _, _, _, h⟩ | ⟨b, e, _, _, _, h⟩ := s.releaseVacating_cases t n v <;> rw [h]
  · exact s.freeSlot_fixed t n
  · exact s.freeSlot_fixed t n
  · exact (s.setEarmark_fixed b none).trans (State.freeSlot_fixed _ _ _)
  · exact s.grantWaiting_fixed t n e

/-! ## Capacity changes and the governor's walks -/

theorem resizeSlots_fixed (raised cut : Bool) (capacity : Nat) (t : SectorId) (l : List SlotId) (s : State) :
    s.Fixed (resizeSlots raised cut capacity t l s) := by
  induction l generalizing s with
  | nil => exact .refl s
  | cons n rest ih => exact (s.setSlot_fixed t n _).trans (ih _)

theorem State.governSector_fixed (s : State) (before : Table LevelRow 8) (t : SectorId) :
    s.Fixed (s.governSector before t) := by
  simp only [State.governSector]
  split
  · exact .refl s
  · split
    · exact s.setSector_fixed t _
    · exact (s.setSector_fixed t _).trans (State.offerStatus_fixed _ _)

theorem governSectors_fixed (before : Table LevelRow 8) (l : List SectorId) (s : State) :
    s.Fixed (governSectors before l s) := by
  induction l generalizing s with
  | nil => exact .refl s
  | cons t rest ih => exact (s.governSector_fixed before t).trans (ih _)

theorem State.raiseToFloor_fixed (s : State) (floor : LevelId) (t : SectorId) : s.Fixed (s.raiseToFloor floor t) := by
  simp only [State.raiseToFloor]
  split
  · exact (s.setSector_fixed t _).trans (State.offerStatus_fixed _ _)
  · exact .refl s

theorem raiseSectors_fixed (floor : LevelId) (l : List SectorId) (s : State) : s.Fixed (raiseSectors floor l s) := by
  induction l generalizing s with
  | nil => exact .refl s
  | cons t rest ih => exact (s.raiseToFloor_fixed floor t).trans (ih _)

end Sys2Proof.Machine
end

