-- ==== Sys2Proof/Tests/Slice0.lean ====
section
/-! SUPPORT. Tests of the model: well-formedness, single commands with results taken from the spec's worked examples, and for each
statement with hypotheses a state and operands that meet them together. -/

namespace Sys2Proof.Tests

open Sys2Proof.Machine

set_option Elab.async false

/-! ## Helpers -/

/-- The state that a command answers with. -/
def ran (i : Instr) (s : State) : State :=
  match exec i s with
  | .next t => t
  | _ => s

/-- The state with the frame of a request at the head of its request queue. -/
def asked (i : Instr) (s : State) : State := { s with link := { s.link with requestQueue := (frameOf i).toList } }

/-- The reply that a request receives. -/
def reply (i : Instr) (s : State) : Option Reply := (ran i (asked i s)).link.replyQueue.getLast?

/-- The state with an enabled sector whose usable slots are FREE. -/
def withSector (t : SectorId) (r : Sector) (s : State) : State :=
  allSlots.foldl (fun u n => u.setSlot t n (if n.val < r.capacity then .free else .closed)) (s.setSector t r)

/-- The state with these slots. -/
def withSlots (l : List (Place × Slot)) (s : State) : State := l.foldl (fun u x => u.setSlot x.1.1 x.1.2 x.2) s

/-- The state with that many reports in its action lane. -/
def withLane (n : Nat) (s : State) : State :=
  { s with link := { s.link with actionLane := List.replicate n (.stuck 1 (0, 0)) } }

/-- The state at a local time. -/
def atTime (n : Nat) (s : State) : State := { s with localTime := BitVec.ofNat 32 n }

/-- An OPEN sector of a capacity, with two tokens. -/
def openSector (capacity : Nat) : Sector := { Sector.powerOn with state := .opened, capacity := capacity, tokens := 2 }

/-- A general call that may be ordered off. -/
def general (tag : Tag) (taken : Nat) (origin : SectorId) : Call :=
  { tag := tag, cls := .general, preemptible := true, admitTime := BitVec.ofNat 32 taken, origin := origin }

/-- An emergency call. -/
def urgent (tag : Tag) (origin : SectorId) : Call :=
  { tag := tag, cls := .emergency, preemptible := false, admitTime := 0, origin := origin }

/-- A waiting entry of key 0 that arrived at 0, with its deadline at 8000. -/
def entry (c : CallClass) (tag : Tag) (t : SectorId) : Waiting :=
  { tag := tag, cls := c, sector := t, key := 0, preemptible := false, arrival := 0, deadline := 8000, watch := .watched,
    merged := 0, escalated := false, escalationPoint := none, earmark := none }

/-- That many entries of one class for one sector, with tags from a base on. -/
def entries (c : CallClass) (base : Nat) (t : SectorId) (n : Nat) : List Waiting :=
  (List.range n).map (fun i => entry c (BitVec.ofNat 32 (base + i)) t)

/-- An ADMIT without service or access class. -/
def callAttempt (tag : Tag) (sector : Octet) (key : CallerKey) (cause : Octet) : AdmitFields :=
  { tag := tag, sector := sector, key := key, service := 0, accessClass := 0, cause := cause }

/-- An enabled screening entry that matches every key. -/
def matchAll (a : ScreenAction) : ScreenEntry :=
  { content := { enabled := true, matchValue := 0, mask := 0, action := a }, hits := 0 }

/-- Sectors 6 and 7 of the worked example of chapter 3, before its first attempt. -/
def burst : State :=
  withSlots ((List.range 8).map (fun i => ((6, toSlot (octet i)), .active (general (BitVec.ofNat 32 (0x601 + i)) 0 6))) ++
      (List.range 24).map (fun i => ((7, toSlot (octet i)),
        .active (general (BitVec.ofNat 32 (0x701 + i)) (if i = 13 then 7000000 else 5000000) 7))))
    (withSector 7 (openSector 24) (withSector 6
      { openSector 12 with generalGuard := 3, priorityGuard := 1, neighbours := [7], level := 4 } State.reset))

/-- The calls of the worked example of chapter 5. -/
def squareCalls : List (Place × Slot) :=
  [((2, 0), .active (urgent 0x201 2)),
    ((2, 1), .active { tag := 0x202, cls := .priority, preemptible := true, admitTime := 500000, origin := 2 }),
    ((2, 2), .active { tag := 0x203, cls := .general, preemptible := false, admitTime := 520000, origin := 2 }),
    ((2, 3), .active { tag := 0x204, cls := .priority, preemptible := false, admitTime := 540000, origin := 2 }),
    ((3, 0), .active { tag := 0x301, cls := .general, preemptible := false, admitTime := 530000, origin := 3 }),
    ((3, 1), .active { tag := 0x302, cls := .priority, preemptible := true, admitTime := 510000, origin := 3 })]

/-- Sectors 2 and 3 of that example, full. -/
def square : State :=
  withSlots squareCalls (withSector 3 (openSector 2) (withSector 2 { openSector 4 with neighbours := [3] } State.reset))

/-- The entry 0xE01 of that example, as queued. -/
def e01 : Waiting :=
  { entry .emergency 0xE01 2 with arrival := 600000, deadline := 660000, escalationPoint := some 605000 }

/-- The vacate part of slot (2, 2) of that example, at an attempt. -/
def vacate22 (a : Attempt) (deadline : Time) : Vacate :=
  { attempt := a, deadline := deadline, watch := .watched, beneficiary := some 0xE01 }

/-- Slot (2, 2) VACATING for 0xE01, at an attempt. -/
def slot22 (a : Attempt) (deadline : Time) : Place × Slot :=
  ((2, 2), .vacating { tag := 0x203, cls := .general, preemptible := false, admitTime := 520000, origin := 2 }
    (vacate22 a deadline))

/-- That example with slot (2, 2) VACATING for 0xE01. -/
def vacating (a : Attempt) (deadline : Time) : State :=
  withSlots [slot22 a deadline]
    { square with emergency := [{ e01 with escalated := true, escalationPoint := none, earmark := some (2, 2) }] }

/-! ## Well-formedness -/

theorem test_wellFormed_wrong_length : WellFormed (.release (.badLength [1, 2, 3])) = true := by decide
theorem test_illFormed_right_length_as_wrong : WellFormed (.release (.badLength [1, 2, 3, 4])) = false := by decide
theorem test_illFormed_body_too_long : WellFormed (.release (.badLength (List.replicate 248 0))) = false := by decide +kernel
theorem test_wellFormed_longest_body : WellFormed (.release (.badLength (List.replicate 247 0))) = true := by decide +kernel
theorem test_illFormed_audit_without_pairs : WellFormed (.audit (.ok ⟨0, []⟩)) = false := by decide
theorem test_illFormed_audit_of_13_pairs : WellFormed (.audit (.ok ⟨0, List.replicate 13 ⟨0, 0⟩⟩)) = false := by decide
theorem test_wellFormed_audit_of_12_pairs : WellFormed (.audit (.ok ⟨0, List.replicate 12 ⟨0, 0⟩⟩)) = true := by decide
theorem test_illFormed_known_kind_as_unknown : WellFormed (.unknownKind 0x01 []) = false := by decide
theorem test_illFormed_unknown_kind_too_long : WellFormed (.unknownKind 0x7F (List.replicate 248 0)) = false := by
  decide +kernel

theorem test_illFormed_bodies_of_each_kind :
    [Instr.admitCall (.badLength (List.replicate 13 0)), .cancel (.badLength [0, 0, 0, 0]),
      .sectorSet (.badLength (List.replicate 10 0)), .sectorDrain (.badLength [0]), .sectorResume (.badLength [0]),
      .sectorDisable (.badLength [0]), .screenSet (.badLength (List.replicate 12 0)), .screenHold (.badLength [0]),
      .screenFree (.badLength []), .levelSet (.badLength (List.replicate 9 0)), .timerSet (.badLength (List.replicate 13 0)),
      .surgeOpen (.badLength [0, 0, 0]), .surgeExtend (.badLength [0, 0]), .surgeClose (.badLength []),
      .guardLock (.badLength []), .audit (.badLength [0, 1, 0, 0, 0, 0, 0]), .queryStatus (.badLength []),
      .querySector (.badLength [0]), .querySlots (.badLength [0, 0]), .queryList (.badLength [0, 0]),
      .queryScreen (.badLength [0]), .queryLevels (.badLength []), .restart (.badLength [])].all
      (fun i => !WellFormed i) = true := by decide +kernel

/-! ## Single commands (expected results from the worked examples and the tables of the spec) -/

/-- R174: the check value over the nine octets. -/
theorem test_crc_check_value : crc [0x31, 0x32, 0x33, 0x34, 0x35, 0x36, 0x37, 0x38, 0x39] = 0x29B1 := by decide +kernel

/-- Section 10.6: the frame of RELEASE 0x01020304, the tag high octet first. -/
theorem test_release_frame : frameOf (.release (.ok 0x01020304)) = some ⟨0x02, [1, 2, 3, 4]⟩ := by decide +kernel

/-- R198: power-on reset discards what the part holds. -/
theorem test_powerOnReset : (ran .powerOnReset burst).sector 6 = Sector.powerOn := by decide +kernel

/-- R170: both straps high select 3686400. -/
theorem test_resetEnd : (ran (.resetEnd true true) State.powerOn).link.rate = .r3686400 := by decide +kernel

/-- Chapter 3, attempt 1: granted directly into (6, 8), one token spent. -/
theorem test_admit_general_granted :
    let t := ran (.admitCall (.ok (callAttempt 0xA01 6 0x11 0))) (asked (.admitCall (.ok (callAttempt 0xA01 6 0x11 0))) (atTime 7200010 burst))
    (t.link.replyQueue, (t.sector 6).tokens, t.slot 6 8) =
      ([.granted 0xA01 (6, 8) .general true], 1,
        .active { tag := 0xA01, cls := .general, preemptible := true, admitTime := 7200010, origin := 6 }) := by decide +kernel

/-- Chapter 3, attempt 6: queued, and the youngest general call of sector 7 is ordered off. -/
theorem test_admit_emergency_preempts :
    let t := ran (.admitCall (.ok (callAttempt 0xA06 7 0x16 1))) (asked (.admitCall (.ok (callAttempt 0xA06 7 0x16 1))) (atTime 7200060 burst))
    (t.link.replyQueue, t.link.actionLane, (t.slot 7 13).vacate?) =
      ([.queued 0xA06 .emergency 1 true], [.preempt 0x70E (7, 13) .first],
        some { attempt := .first, deadline := 7202060, watch := .watched, beneficiary := some 0xA06 }) := by decide +kernel

/-- Chapter 4, event 1: a RELEASE frees (5, 3), and one place is too few to withdraw and grant. -/
theorem test_release_defers_service :
    let s := withLane 47 (vacating .first 607004)
    let t := ran (.release (.ok 0x204)) (asked (.release (.ok 0x204)) s)
    (t.link.replyQueue, t.slot 2 3, t.serviceDeferred) = ([.released 0x204 (2, 3) .active], .free, true) := by decide +kernel

/-- Chapter 5, event 5: the handover, waited 9500. -/
theorem test_release_hands_over :
    let s := atTime 609500 (vacating .second 609008)
    let t := ran (.release (.ok 0x203)) (asked (.release (.ok 0x203)) s)
    (t.link.replyQueue, t.link.actionLane, t.emergency) =
      ([.released 0x203 (2, 2) .vacating2], [.grant 0xE01 (2, 2) .emergency 9500], []) := by decide +kernel

/-- R83: CANCEL drops the earmark and the slot keeps vacating. -/
theorem test_cancel_drops_earmark :
    let t := ran (.cancel (.ok 0xE01)) (asked (.cancel (.ok 0xE01)) (vacating .first 607004))
    (t.link.replyQueue, (t.slot 2 2).vacate?) =
      ([.cancelled 0xE01 .emergency true], some { vacate22 .first 607004 with beneficiary := none }) := by decide +kernel

/-- R12: an accepted SECTOR-SET enables a DISABLED sector with a full bucket. -/
theorem test_sectorSet_enables :
    let f : SectorSetFields := ⟨9, 24, 3, 1, 1, 8, 0xFF, 0xFF, 16, 200⟩
    let t := ran (.sectorSet (.ok f)) (asked (.sectorSet (.ok f)) State.reset)
    (t.link.replyQueue, (t.sector 9).tokens, (t.sector 9).neighbours, t.freeCount 9) =
      ([.sectorAccepted .sectorSet 9 .opened], 200, [8], 24) := by decide +kernel

/-- R10: a priority guard above the general guard names field 4. -/
theorem test_sectorSet_guards :
    reply (.sectorSet (.ok ⟨9, 24, 1, 2, 0, 0, 0, 0, 4, 32⟩)) State.reset = some (.reject (some .sectorSet) .badField 4 0) := by
  decide +kernel

/-- R16: an empty sector is DRAINED at once. -/
theorem test_sectorDrain_empty :
    let s := withSector 4 (openSector 2) State.reset
    let t := ran (.sectorDrain (.ok 4)) (asked (.sectorDrain (.ok 4)) s)
    (t.link.replyQueue, t.link.statusLane) = ([.sectorAccepted .sectorDrain 4 .drained], [.drained 4]) := by decide +kernel

/-- R18: a RESUME serves the FREE slots of the sector. -/
theorem test_sectorResume_serves :
    let s := { withSector 4 { openSector 2 with state := .drained } State.reset with priority := [entry .priority 5 4] }
    (ran (.sectorResume (.ok 4)) (asked (.sectorResume (.ok 4)) s)).link.actionLane = [.grant 5 (4, 0) .priority 0] := by
  decide +kernel

/-- R19: a sector that a waiting entry names is not disabled while OPEN. -/
theorem test_sectorDisable_named :
    reply (.sectorDisable (.ok 4)) { withSector 4 (openSector 0) State.reset with general := [entry .general 5 4] } =
      some (.reject (some .sectorDisable) .busy 0 0) := by decide +kernel

/-- Chapter 2, the table on the night: SCREEN-SET of an enabled entry that is not held. -/
theorem test_screenSet_denied :
    reply (.screenSet (.ok ⟨24, 1, 0x18, 0x18, 1, 2, 1, 0⟩))
        (State.reset.setScreenEntry 24 ⟨⟨true, 0x18, 0x18, .assign .priority false⟩, 1⟩) =
      some (.reject (some .screenSet) .writeDenied 0 0) := by decide +kernel

/-- Chapter 2, attempt B: entry 24 stands above entry 10 and wins; chapter 2's key is 0x0B463A. -/
theorem test_scan_highest_index_wins :
    let s := (State.reset.setScreenEntry 24 ⟨⟨true, 0x18, 0x18, .assign .priority false⟩, 0⟩).setScreenEntry 10
      ⟨⟨true, 0x0B4620, 0x1FFFE0, .bar 3⟩, 0⟩
    let f : AdmitFields := ⟨1, 0, 0, 0x5A31, 13, 0⟩
    (screenKey f, s.classOf f, s.classOf { f with accessClass := 2 }) = (0x0B463A, .attempt .priority false, .bar 10 3) := by
  decide +kernel

/-- Chapter 2: a second hold is refused BUSY. -/
theorem test_screenHold_busy :
    let s := { State.reset.setScreenEntry 10 (matchAll (.bar 3)) with }
    reply (.screenHold (.ok 10)) { s with screening := { s.screening with hold := some ⟨24, (matchAll (.bar 1)).content⟩ } } =
      some (.reject (some .screenHold) .busy 0 0) := by decide +kernel

/-- R34: without an open hold, SCREEN-FREE is NOT-OPEN. -/
theorem test_screenFree_not_open :
    reply (.screenFree (.ok ())) State.reset = some (.reject (some .screenFree) .notOpen 0 0) := by decide +kernel

/-- R114: the staged row is replaced and the active one stays. -/
theorem test_levelSet_stages :
    let f : LevelSetFields := ⟨4, 2048, 8, 60, 64, 1500⟩
    let t := ran (.levelSet (.ok f)) (asked (.levelSet (.ok f)) State.reset)
    ((t.governor.stagedTable.get 4).barPct, (t.governor.activeTable.get 4).barPct) = (60, 50) := by decide +kernel

/-- R148: a vacate timeout below 200 ms names setting 5. -/
theorem test_timerSet_vacate_timeout :
    reply (.timerSet (.ok ⟨8, 15, 60, 5, 199, 60, 500, 1, 1000⟩)) State.reset =
      some (.reject (some .timerSet) .badField 5 0) := by decide +kernel

/-- R129: a window of 10 s or less places OPENED and CLOSING, the second at the place of the first (R164). -/
theorem test_surgeOpen_short :
    let f : SurgeOpenFields := ⟨10, 4⟩
    let t := ran (.surgeOpen (.ok f)) (asked (.surgeOpen (.ok f)) (withSector 4 (openSector 2) State.reset))
    (t.link.statusLane, (t.sector 4).level) = ([.level 4 4 50 64, .surge .closing 4 10], 4) := by decide +kernel

/-- R130: the close time moves at most one hour ahead. -/
theorem test_surgeExtend_hour :
    let s := { State.reset with governor := { State.reset.governor with surge := some ⟨5, 5000, false⟩ } }
    let t := ran (.surgeExtend (.ok 3600)) (asked (.surgeExtend (.ok 3600)) s)
    (t.governor.surge, t.link.replyQueue) = (some ⟨5, 3600000, true⟩, [.surgeAccepted .surgeExtend 5 3600]) := by decide +kernel

/-- R132: SURGE-CLOSE places a CLOSED report. -/
theorem test_surgeClose :
    let s := { State.reset with governor := { State.reset.governor with surge := some ⟨5, 5000, false⟩ } }
    (ran (.surgeClose (.ok ())) (asked (.surgeClose (.ok ())) s)).link.statusLane = [.surge .closed 5 0] := by decide +kernel

/-- R185: GUARD-LOCK is accepted. -/
theorem test_guardLock : (ran (.guardLock (.ok ())) (asked (.guardLock (.ok ())) State.reset)).guardLock = true := by
  decide +kernel

/-- Chapter 11: the AUDIT of sector 2 after a STUCK report. -/
theorem test_audit_mismatch :
    let s := withSlots [((2, 0), .active (general 0x201 0 2)), ((2, 1), .active (urgent 0xE01 2)),
      ((2, 2), .stuck (general 0x203 0 2))] (withSector 2 (openSector 4) State.reset)
    reply (.audit (.ok ⟨2, [⟨0, 0x201⟩, ⟨1, 0xE01⟩, ⟨2, 0⟩, ⟨3, 0⟩]⟩)) s = some (.audited 2 2 3 (some (.stuck, 0x203))) := by
  decide +kernel

/-- R190: 44 octets, the local time after the result octet. -/
theorem test_queryStatus :
    (reply (.queryStatus (.ok ())) (atTime 0x01020304 State.reset)).map (fun r => (r.kind, r.body.length, r.body.take 5)) =
      some (0xB0, 44, [0, 1, 2, 3, 4]) := by decide +kernel

/-- R191: the counts of a sector with eight calls and four FREE slots. -/
theorem test_querySector :
    (reply (.querySector (.ok 6)) burst).map (fun r => r.body.drop 19) = some [12, 4, 8, 0, 0] := by decide +kernel

/-- R192: a first slot of 20 gives 4 records. -/
theorem test_querySlots :
    (reply (.querySlots (.ok ⟨6, 20⟩)) burst).map (fun r => r.body) = some ([0, 6, 20, 4] ++ List.replicate 80 0) := by
  decide +kernel

/-- R193: a start position beyond the list gives no entry. -/
theorem test_queryList : (reply (.queryList (.ok ⟨3, 2⟩)) burst).map Reply.body = some [0, 3, 2, 0, 0] := by decide +kernel

/-- R194: a BAR entry sends its reason code, and 0 for class and flag. -/
theorem test_queryScreen :
    (reply (.queryScreen (.ok 10)) (State.reset.setScreenEntry 10 ⟨⟨true, 0x0B4620, 0x1FFFE0, .bar 3⟩, 258⟩)).map
        (fun r => r.body.take 16) =
      some [0, 10, 1, 0x0B, 0x46, 0x20, 0x1F, 0xFF, 0xE0, 2, 0, 0, 3, 1, 2, 0] := by decide +kernel

/-- R195: the periods and row 1 of the active table at power-on. -/
theorem test_queryLevels :
    (reply (.queryLevels (.ok ())) State.reset).map (fun r => (r.body.take 5, (r.body.drop 13).take 8)) =
      some ([0, 3, 0xE8, 3, 0xE8], [2, 0, 24, 10, 0, 8, 1, 0xF4]) := by decide +kernel

/-- R196: the numbers of entries discarded. -/
theorem test_restart :
    reply (.restart (.ok ())) { burst with general := entries .general 1 6 3, priority := entries .priority 9 6 2 } =
      some (.done 0 2 3) := by decide +kernel

/-- R181, R182: a kind that names no request. -/
theorem test_unknownKind :
    (reply (.unknownKind 0x7E [1]) State.reset).map (fun r => (r.kind, r.body)) = some (0xFF, [3, 0x7E, 0, 0, 0, 0]) := by
  decide +kernel

/-- R181: a RESTART frame with a body. -/
theorem test_restart_bad_length :
    reply (.restart (.badLength [0])) State.reset = some (.reject (some .restart) .badLength 0 0) := by decide +kernel

/-- A receiver in CHECK with the octets of a RELEASE and its first check octet. -/
def inCheck : State :=
  let got : List Octet := [2, 0, 0, 2, 3]
  { State.reset with link := { State.reset.link with
    receiver := .check got (some ((crc (lengthOctet got :: got)).extractLsb' 8 8)) } }

/-- R177: the second check octet completes a good frame. -/
theorem test_goodFrame :
    (ran (.goodFrame ((crc [5, 2, 0, 0, 2, 3]).extractLsb' 0 8)) inCheck).link.requestQueue = [⟨2, [0, 0, 2, 3]⟩] := by
  decide +kernel

/-- Chapter 10, frame C: a length octet of 0xFA as the third loss of a run offers NOISY (1, 2, 0). -/
theorem test_badLength_noisy :
    let k := State.reset.link
    let s := { State.reset with link := { k with receiver := .length, noiseRun := 2, gapCount := 1, checkCount := 1 } }
    (ran (.badLengthOctet 0xFA) s).link.statusLane = [.noisy 1 2 0] := by decide +kernel

/-- Chapter 10, frame B: a gap past 1 ms. -/
theorem test_gapTimeout :
    let s := { State.reset with link := { State.reset.link with receiver := .body 5 [2] } }
    let t := ran .gapTimeout s
    (t.link.receiver, t.link.gapCount, t.link.noiseRun) = (.hunt, 1, 1) := by decide +kernel

/-- R171: a bit is the level of two of its three centre samples; the octet here is 0x5A, least significant bit first. -/
theorem test_octetDelivered :
    let lo : CentreSamples := ⟨true, false, false⟩
    let hi : CentreSamples := ⟨true, false, true⟩
    (ran (.octetDelivered ⟨false, lo, lo, hi, lo, hi, hi, lo, hi, lo, lo⟩) State.reset).link.receiver = .length := by decide +kernel

/-- R171: after a stop bit that reads low nothing is taken until the line has returned high. -/
theorem test_octetDelivered_waits_for_high :
    let lo : CentreSamples := ⟨false, false, false⟩
    let hi : CentreSamples := ⟨true, true, true⟩
    let broken : CharSamples := ⟨false, lo, lo, lo, lo, lo, lo, lo, lo, lo, lo⟩
    let start := fun b : Bool => (⟨b, lo, lo, hi, lo, hi, hi, lo, hi, lo, hi⟩ : CharSamples)
    let t := ran (.octetDelivered broken) State.reset
    (t.link.lineLow, (ran (.octetDelivered (start false)) t).link.receiver, (ran (.octetDelivered (start true)) t).link.receiver) =
      (true, .hunt, .length) := by decide +kernel

/-- R170: 0x5A is sent low, then 0, 1, 0, 1, 1, 0, 1, 0, then high; the idle line stands high. -/
theorem test_sentCharacter :
    let s := ran .frameBoundary { State.reset with link := { State.reset.link with statusLane := [.drained 3] } }
    ((List.range 10).map s.txdLevel, State.reset.txdLevel 0) =
      ([false, false, true, false, true, true, false, true, false, true], true) := by decide +kernel

/-- R172: one sample is not enough. -/
theorem test_thold_samples :
    ((ran (.tholdAsserted 1) State.reset).link.thold, (ran (.tholdAsserted 2) State.reset).link.thold) = (false, true) := by
  decide +kernel

/-- R167: a frame boundary is taken as THOLD becomes deasserted. -/
theorem test_thold_boundary :
    let s := { State.reset with link := { State.reset.link with thold := true, statusLane := [.drained 3] } }
    (ran (.tholdDeasserted 2) s).link.sending.map (fun d => (d.source, d.octets.take 4)) =
      some (.status, [0x5A, 2, 0xD3, 3]) := by decide +kernel

/-- Chapter 9: the action report is sent before the reply and the status report. -/
theorem test_frameBoundary_order :
    let k := State.reset.link
    let s := { State.reset with link :=
      { k with actionLane := [.grant 0xD01 (6, 4) .general 5200], replyQueue := [.accepted .surgeClose],
               statusLane := [.drained 3] } }
    (ran .frameBoundary s).link.sending.map (fun d => (d.source, d.octets.take 3)) = some (.action, [0x5A, 12, 0xC1]) := by
  decide +kernel

/-- The state in which a place of the action lane frees while service is deferred (chapter 4, event 2). -/
def deferred : State :=
  let s := atTime 609500 (withSlots [((3, 1), .free)] (withLane 47 (vacating .first 607004)))
  { s with serviceDeferred := true, link := { s.link with sending := some ⟨.action, [], 0⟩ } }

/-- R158, R161: the end of an action report's frame frees its place and gives the signal. -/
theorem test_frameEnd_signals :
    ((ran .frameEnd deferred).link.actionLane.length, (ran .frameEnd deferred).retrySignal) = (46, true) := by decide +kernel

/-- R76, R161: while the retry is owed no second action report leaves, and the part makes the retry before all else; then it takes the
frame boundary before all else (R166). -/
theorem test_frameEnd_answers_first :
    let s := ran .frameEnd deferred
    let u := { s with link := { s.link with sending := some ⟨.action, [], 0⟩ } }
    let t := ran .deferredServiceRetry s
    ((ran .frameEnd u).link.actionLane.length, s.idleOptions, t.idleOptions) =
      (46, [some .deferredServiceRetry], [some .frameBoundary]) := by decide +kernel

/-- Chapter 4, event 2: the retry withdraws, grants (waited 9500 here), and ends with the mark clear. -/
theorem test_deferredServiceRetry :
    let t := ran .deferredServiceRetry (ran .frameEnd deferred)
    (t.link.actionLane.drop 46, t.slot 2 2, t.serviceDeferred) =
      ([.withdraw 0x203 (2, 2), .grant 0xE01 (3, 1) .emergency 9500],
        .active { tag := 0x203, cls := .general, preemptible := false, admitTime := 520000, origin := 2 }, false) := by
  decide +kernel

/-- R96: a deferred pass is run once the signal has found its mark. -/
theorem test_deferredPass :
    let s := { square with emergency := [{ e01 with escalated := true }], passDeferred := true, passSignal := true }
    (ran .deferredPass s).link.actionLane = [.preempt 0x203 (2, 2) .first] := by decide +kernel

/-- Chapter 4, event 8: EXPIRED with waited 8020 and hint 1047. -/
theorem test_waitingExpiry :
    let s := withSector 5 { openSector 10 with level := 3 } State.reset
    let e := { entry .general 0xB21 5 with key := 0x2F, arrival := 9002000, deadline := 9010000, watch := .signalled }
    (ran (.waitingExpiry 0xB21) (atTime 9010020 { s with general := [e] })).link.actionLane =
      [.expired 0xB21 .general .timeout 8020 1047] := by decide +kernel

/-- Chapter 8, event 6: without a free place the expiry stays pending. -/
theorem test_waitingExpiry_declined :
    ((ran (.waitingExpiry 0xC01) (atTime 5710 (withLane 48 { State.reset with general := [{ entry .general 0xC01 4 with
      arrival := 4294965000, deadline := 5704 }] }))).general.map Waiting.watch) = [.pendingRoom] := by decide +kernel

/-- Chapter 5, event 2: escalation, and a pass in stage 2. -/
theorem test_escalation :
    let t := ran (.escalation 0xE01) (atTime 605004 { square with emergency := [e01] })
    (t.link.actionLane, (t.slot 2 2).vacate?) =
      ([.preempt 0x203 (2, 2) .first], some (vacate22 .first 607004)) := by decide +kernel

/-- Chapter 5, event 3: the order is renewed. -/
theorem test_vacateExpiry_renews :
    let t := ran (.vacateExpiry 2 2) (atTime 607008 (vacating .first 607004))
    (t.link.actionLane, (t.slot 2 2).vacate?) =
      ([.preempt 0x203 (2, 2) .second], some (vacate22 .second 609008)) := by decide +kernel

/-- Chapter 5, event 4: STUCK, then a second victim. -/
theorem test_vacateExpiry_stuck :
    let t := ran (.vacateExpiry 2 2) (atTime 609010 (vacating .second 609008))
    (t.link.actionLane, t.slot 2 2, (t.slot 2 1).vacate?.map Vacate.deadline) =
      ([.stuck 0x203 (2, 2), .preempt 0x202 (2, 1) .first],
        .stuck { tag := 0x203, cls := .general, preemptible := false, admitTime := 520000, origin := 2 }, some 611010) := by
  decide +kernel

/-- Chapter 6, the boundary of sector 6: occupancy 12, two waiting, pressure 1300, level 4. -/
theorem test_epochBoundary :
    let r := { openSector 12 with pressure := 1300, level := 4, tokens := 0, votes := ⟨.hold, .hold, .down⟩ }
    let s := withSlots ((List.range 12).map (fun i => ((6, toSlot (octet i)), .active (general (BitVec.ofNat 32 (100 + i)) 0 6))))
      (withSector 6 r State.reset)
    let t := ran .epochBoundary (atTime 1000 { s with general := [entry .general 1 6], emergency := [entry .emergency 2 6] })
    ((t.sector 6).pressure, (t.sector 6).level, (t.sector 6).tokens, (t.sector 6).votes, t.link.statusLane,
      t.governor.nextBoundary) = (1274, 3, 12, VoteHistory.cleared, [.level 6 3 30 32], 2000) := by decide +kernel

/-- R131: the closing notice carries the seconds that remain. -/
theorem test_closingPoint :
    let s := { State.reset with governor := { State.reset.governor with surge := some ⟨5, 10000, true⟩ } }
    ((ran .closingPoint s).link.statusLane, (ran .closingPoint s).governor.surge) =
      ([.surge .closing 5 10], some ⟨5, 10000, false⟩) := by decide +kernel

/-- R132: the window closes when local time reaches its close time. -/
theorem test_surgeExpiry :
    let s := { State.reset with governor := { State.reset.governor with surge := some ⟨5, 10000, false⟩ } }
    ((ran .surgeExpiry (atTime 9999 s)).link.statusLane, (ran .surgeExpiry (atTime 10000 s)).link.statusLane) =
      ([], [.surge .closed 5 0]) := by decide +kernel

/-- Chapter 7: two recent refusals, base 800, jitter 999. -/
theorem test_retryHint_two_refusals :
    let s := withSector 5 { openSector 0 with level := 5 } { State.reset with
      repeatTable := [⟨0x0001F4A3, 2, 0⟩]
      settings := { State.reset.settings with jitter := 999 }
      governor := { State.reset.governor with activeTable := State.reset.governor.activeTable.set 5 ⟨2560, 4, 70, 128, 800⟩ } }
    (s.retryHint 0x0001F4A3 5, (s.recordRefusal 0x0001F4A3).repeatTable) = (3363, [⟨0x0001F4A3, 3, 0⟩]) := by decide +kernel

/-- Chapter 7: the hint stays at 65535. -/
theorem test_retryHint_top :
    let s := withSector 14 { openSector 0 with level := 7 } { State.reset with
      repeatTable := [⟨0xFFFF, 4, 0⟩], settings := { State.reset.settings with jitter := 4095 } }
    s.retryHint 0xFFFF 14 = 65535 := by decide +kernel

/-- The state that a step answers with. -/
def stepped (s : State) : State :=
  match step s with
  | .next t => t
  | _ => s

/-- Log 2: with nothing due, a millisecond passes. -/
theorem test_step_tick : stepped State.reset = State.reset.tick := by decide +kernel

/-! ## States that meet the hypotheses of the statements

One theorem for each statement with hypotheses, named after it. A clause that a boundary value opens is met at that value. -/

theorem test_meets_StepTakesTheFrontCommand :
    ({ burst with pending := [.gapTimeout, .frameEnd] } : State).pending = Instr.gapTimeout :: [.frameEnd] := rfl

theorem test_meets_IdlePartGoesOnByItself :
    let s := ran .frameEnd deferred
    let t := ran .deferredServiceRetry s
    (burst.pending = [] ∧ burst.inReset = false ∧ burst.signalEvents = [] ∧ burst.boundaryEvents = []) ∧
      (State.powerOn.pending = [] ∧ State.powerOn.inReset = true) ∧
      (s.pending = [] ∧ s.inReset = false ∧ s.signalEvents ≠ []) ∧
      t.pending = [] ∧ t.inReset = false ∧ t.signalEvents = [] ∧ t.boundaryEvents ≠ [] := by
  decide +kernel

theorem test_meets_TakenRequestReceivesOneReply :
    WellFormed (.release (.ok 0x601)) = true ∧ frameOf (.release (.ok 0x601)) = some ⟨2, [0, 0, 6, 1]⟩ ∧
      (asked (.release (.ok 0x601)) burst).TakesFrame ⟨2, [0, 0, 6, 1]⟩ := by
  refine ⟨by decide, by decide, ?_⟩
  unfold State.TakesFrame
  decide +kernel

/-- Taken on arrival; joining behind 4, 5 and 7 frames; discarded behind 8. -/
theorem test_meets_RequestNotAtTheHeadArrives :
    let i := Instr.release (.ok 0x601)
    let held := fun n : Nat => ({ burst with link := { burst.link with requestQueue := List.replicate n ⟨3, [0, 0, 0, 0]⟩ } } : State)
    frameOf i = some ⟨2, [0, 0, 6, 1]⟩ ∧ burst.inReset = false ∧ burst.TakesOnArrival ∧
      ∀ n ∈ [4, 5, 7, 8], (held n).link.requestQueue.length = n ∧ ¬(held n).TakesOnArrival ∧ ¬(held n).TakesFrame ⟨2, [0, 0, 6, 1]⟩ := by
  simp only [State.TakesOnArrival, State.TakesFrame]
  decide +kernel

theorem test_meets_RequestFramesDecodeBack :
    let i := Instr.audit (.ok ⟨15, List.replicate 12 ⟨23, 0xFFFFFFFF⟩⟩)
    WellFormed i = true ∧ (frameOf i).isSome = true := by decide +kernel

theorem test_meets_EveryFrameStandsForOneCommand : (List.replicate 247 (0xFF : Octet)).length ≤ 247 := by decide +kernel

/-- The longest body; a frame in transmission; a character at its levels. -/
theorem test_meets_ReceiverTakesWholeFrames :
    let s := ran .frameBoundary { State.reset with link := { State.reset.link with statusLane := [.drained 3] } }
    let lo : CentreSamples := ⟨false, false, false⟩
    let hi : CentreSamples := ⟨true, true, true⟩
    (s.link.receiver = .hunt ∧ (List.replicate 247 (0x5A : Octet)).length ≤ 247) ∧ s.link.sending.isSome = true ∧
      State.reset.link.sending = none ∧ s.inReset = false ∧ s.link.lineLow = false ∧
      ([lo, lo, hi, lo, hi, hi, lo, hi, lo, hi] : List CentreSamples).map (fun x => [x.s7, x.s8, x.s9]) =
        (sentCharacter 0x5A).map (fun b => [b, b, b]) := by decide +kernel

/-- Each check of an ADMIT fails at the first value out of range, the ones before it passing; then a DISABLED sector and a held
tag. -/
theorem test_meets_AdmitRequestChecks :
    let c : List AdmitFields := [callAttempt 0 0 0 0, callAttempt 1 16 0 0, { callAttempt 1 15 0 0 with accessClass := 16 },
      { callAttempt 1 15 0 2 with accessClass := 15 }, { callAttempt 1 15 0 1 with accessClass := 15 }, callAttempt 0x601 6 0 1]
    (∀ f ∈ c, (asked (.admitCall (.ok f)) burst).Takes (.admitCall (.ok f))) ∧
      (burst.sector 15).state = .disabled ∧ (burst.sector 6).state ≠ .disabled ∧ burst.Holds 0x601 := by
  refine ⟨fun f hf => takes_of ?_, by decide +kernel, by decide +kernel, (holds_iff _ _).mpr (by decide +kernel)⟩
  revert f
  decide +kernel

/-- What a frame, the action lane or the time adds to a state leaves its records and slots as they are. -/
theorem asked_paired {s : State} (h : s.RecordsPaired) (i : Instr) : (asked i s).RecordsPaired := { h with }
theorem asked_lawful {s : State} (h : s.SlotsLawful) (i : Instr) : (asked i s).SlotsLawful := { h with }
theorem withLane_paired {s : State} (h : s.RecordsPaired) (n : Nat) : (withLane n s).RecordsPaired := { h with }
theorem withLane_lawful {s : State} (h : s.SlotsLawful) (n : Nat) : (withLane n s).SlotsLawful := { h with }
theorem atTime_paired {s : State} (h : s.RecordsPaired) (n : Nat) : (atTime n s).RecordsPaired := { h with }

/-- The records of the worked example of chapter 5 are paired, with no entry and with slot (2, 2) VACATING for 0xE01. -/
theorem square_paired : square.RecordsPaired := recordsPaired_of squareCalls (by decide +kernel)

theorem square_waiting_paired (e : Waiting) (h : e = e01 ∨ e = { e01 with escalated := true }) :
    ({ square with emergency := [e] } : State).RecordsPaired := by
  rcases h with rfl | rfl <;> exact recordsPaired_of squareCalls (by decide +kernel)

theorem vacating_first_paired : (vacating .first 607004).RecordsPaired :=
  recordsPaired_of (slot22 .first 607004 :: squareCalls) (by decide +kernel)

theorem vacating_second_paired : (vacating .second 609008).RecordsPaired :=
  recordsPaired_of (slot22 .second 609008 :: squareCalls) (by decide +kernel)

theorem vacating_first_lawful : (vacating .first 607004).SlotsLawful := slotsLawful_of (by decide +kernel)

theorem vacating_second_lawful : (vacating .second 609008).SlotsLawful := slotsLawful_of (by decide +kernel)

/-- What an ADMIT meets when it passes its checks: its frame is taken and its tag is new. -/
theorem passes_of {s : State} {f : AdmitFields}
    (h : (f.tag ≠ 0 ∧ f.sector.toNat ≤ 15 ∧ f.accessClass.toNat ≤ 15 ∧ f.cause.toNat ≤ 1) ∧
      (s.sector (toSector f.sector)).state ≠ .disabled ∧ s.tagHeld f.tag = false) : s.PassesChecks f := by
  obtain ⟨⟨h1, h2, h3, h4⟩, h5, h6⟩ := h
  exact ⟨h1, h2, h3, h4, h5, by simp [holds_iff, h6]⟩

/-- A winner at index 31; and no winner, with the cause flag set and clear. -/
theorem test_meets_ScanOfTheScreeningTable :
    let f := { callAttempt 1 6 0 1 with accessClass := 15 }
    let s := burst.setScreenEntry 31 ⟨⟨true, 0x1F, 0x1F, .bar 15⟩, 65535⟩
    f.accessClass.toNat ≤ 15 ∧ f.cause.toNat ≤ 1 ∧
      ((s.screenEntry 31).content.enabled = true ∧ ∀ n < 21, (s.screenEntry 31).content.mask.getLsbD n = true →
        (screenKey f).getLsbD n = (s.screenEntry 31).content.matchValue.getLsbD n) ∧ (∀ j : ScreenIndex, ¬31 < j) ∧
      ∀ i : ScreenIndex, (burst.screenEntry i).content.enabled = false := by decide +kernel

/-- BARRED, DRAINING and THROTTLED. -/
theorem test_meets_AdmitRefusedBeforeTheGrantTest :
    let f := callAttempt 1 6 0x11 0
    let i := Instr.admitCall (.ok f)
    let barred := asked i (burst.setScreenEntry 0 (matchAll (.bar 1)))
    let leaving := asked i (burst.setSector 6 { burst.sector 6 with state := .drained })
    let spent := asked i (burst.setSector 6 { burst.sector 6 with tokens := 0 })
    (barred.Takes i ∧ barred.PassesChecks f ∧ barred.classOf f = .bar 0 1) ∧
      (leaving.Takes i ∧ leaving.PassesChecks f ∧ leaving.classOf f = .attempt .general true ∧
        (leaving.sector 6).state = .drained) ∧
      (spent.Takes i ∧ spent.PassesChecks f ∧ spent.classOf f = .attempt .general true ∧ (spent.sector 6).state = .opened ∧
        (spent.sector 6).tokens = 0) := by
  exact ⟨⟨takes_of (by decide +kernel), passes_of (by decide +kernel), by decide +kernel⟩,
    ⟨takes_of (by decide +kernel), passes_of (by decide +kernel), by decide +kernel⟩,
    ⟨takes_of (by decide +kernel), passes_of (by decide +kernel), by decide +kernel⟩⟩

/-- Sector 6 with every ADMIT screened PRIORITY. -/
def screenedPriority : State := burst.setScreenEntry 0 (matchAll (.assign .priority false))

/-- Direct with one slot more than the guard holds back; behind an entry, the list at 47 and at 48. -/
theorem test_meets_PriorityDecision :
    let f := callAttempt 0xA04 6 0x14 0
    let i := Instr.admitCall (.ok f)
    let s := asked i (withSlots [((6, 8), .active (general 0x609 0 6)), ((6, 9), .active (general 0x60A 0 6))] screenedPriority)
    let queued := fun n : Nat => asked i ({ screenedPriority with priority := entries .priority 0x800 6 n } : State)
    (s.Takes i ∧ s.PassesChecks f ∧ s.classOf f = .attempt .priority false ∧ (s.sector 6).state = .opened ∧
      min (s.sector 6).priorityGuard (s.sector 6).capacity + 1 = s.freeCount 6 ∧ s.emergency = [] ∧ s.priority = [] ∧
      s.LowestFree 6 10) ∧
      ∀ n ∈ [47, 48], (queued n).Takes i ∧ (queued n).PassesChecks f ∧ (queued n).classOf f = .attempt .priority false ∧
        ((queued n).sector 6).state = .opened ∧ (queued n).priority.length = n ∧ ∃ e ∈ (queued n).priority, e.sector = 6 := by
  refine ⟨⟨takes_of (by decide +kernel), passes_of (by decide +kernel), ?_⟩, fun n hn => ⟨takes_of ?_, passes_of ?_, ?_⟩⟩
  · unfold State.LowestFree; decide +kernel
  all_goals revert n; decide +kernel

theorem test_meets_GeneralDirectGrant :
    let f := callAttempt 0xA01 6 0x11 0
    let i := Instr.admitCall (.ok f)
    let s := asked i burst
    s.Takes i ∧ s.PassesChecks f ∧ s.classOf f = .attempt .general true ∧ (s.sector 6).state = .opened ∧
      0 < (s.sector 6).tokens ∧ min (s.sector 6).generalGuard (s.sector 6).capacity + 1 = s.freeCount 6 ∧ s.emergency = [] ∧
      s.priority ++ s.general = [] ∧ s.LowestFree 6 8 := by
  refine ⟨takes_of (by decide +kernel), passes_of (by decide +kernel), ?_⟩
  unfold State.LowestFree
  decide +kernel

/-- The list at 95; at 96 under PROTECT, and under DISPLACE with the action lane at 48 and at 47. -/
theorem test_meets_GeneralAttemptWaits :
    let f := callAttempt 0xA02 6 0x12 0
    let i := Instr.admitCall (.ok f)
    let full := fun (n lane : Nat) (p : ListPolicy) => asked i (withLane lane
      { burst with general := entries .general 0x800 6 n, settings := { burst.settings with policy := p } })
    ∀ x ∈ [(95, 48, ListPolicy.protect), (96, 0, .protect), (96, 48, .displace), (96, 47, .displace)],
      let s := full x.1 x.2.1 x.2.2
      s.Takes i ∧ s.PassesChecks f ∧ s.classOf f = .attempt .general true ∧ (s.sector 6).state = .opened ∧
        0 < (s.sector 6).tokens ∧ (∃ e ∈ s.priority ++ s.general, e.sector = 6) ∧
        (s.general.length, s.link.actionLane.length, s.settings.policy) = x := by
  intro f i full x hx
  refine ⟨takes_of ?_, passes_of ?_, ?_⟩
  all_goals revert x; decide +kernel

/-- An emergency entry of key 0x16, merged 254 times. -/
def mergedEntry : Waiting := { entry .emergency 0xA06 2 with key := 0x16, merged := 254 }

theorem test_meets_EmergencyMerge :
    let f := callAttempt 0xA07 2 0x16 1
    let i := Instr.admitCall (.ok f)
    let s := asked i { square with emergency := [mergedEntry] }
    s.Takes i ∧ s.PassesChecks f ∧ s.RecordsPaired ∧ s.classOf f = .attempt .emergency false ∧
      s.emergency = [] ++ mergedEntry :: [] ∧ mergedEntry.key = f.key ∧ f.key ≠ 0 := by
  exact ⟨takes_of (by decide +kernel), passes_of (by decide +kernel), recordsPaired_of squareCalls (by decide +kernel),
    by decide +kernel⟩

/-- A grant in the second of two sectors, the first holding no FREE slot. -/
theorem test_meets_EmergencyDirectGrant :
    let f := callAttempt 0xA08 7 0 1
    let i := Instr.admitCall (.ok f)
    let s := asked i (burst.setSector 7 { burst.sector 7 with neighbours := [6] })
    s.Takes i ∧ s.PassesChecks f ∧ s.classOf f = .attempt .emergency false ∧ f.key = 0 ∧
      toSector f.sector :: (s.sector (toSector f.sector)).neighbours = [7] ++ 6 :: [] ∧ s.freeCount 7 = 0 ∧
      ((s.sector 6).state = .opened ∧ s.freeCount 6 = 4 ∧ s.emergency = []) ∧ s.LowestFree 6 8 := by
  refine ⟨takes_of (by decide +kernel), passes_of (by decide +kernel), ?_⟩
  unfold State.LowestFree
  decide +kernel

/-- The emergency list at 31 and at 32. -/
theorem test_meets_EmergencyAttemptWaits :
    let f := callAttempt 0xA06 7 0x16 1
    let i := Instr.admitCall (.ok f)
    let full := fun n : Nat => asked i { burst with emergency := entries .emergency 0x800 7 n }
    ∀ n ∈ [31, 32], (full n).Takes i ∧ (full n).PassesChecks f ∧ (full n).classOf f = .attempt .emergency false ∧
      (∀ e ∈ (full n).emergency, e.key ≠ f.key) ∧ (∀ v ∈ 7 :: ((full n).sector 7).neighbours, (full n).freeCount v = 0) ∧
      (full n).emergency.length = n := by
  intro f i full n hn
  refine ⟨takes_of ?_, passes_of ?_, ?_⟩
  all_goals revert n; decide +kernel

/-- A record at the last millisecond of its window and one at its end; a full table. -/
theorem test_meets_HintsAndRecording :
    let s := fun n : Nat => atTime n { State.reset with repeatTable := [⟨1, 4, 0⟩, ⟨2, 1, 0⟩] }
    (s 0).repeatTable = [⟨1, 4, 0⟩] ++ ⟨2, 1, 0⟩ :: [] ∧ (∀ x ∈ [(⟨1, 4, 0⟩ : RepeatEntry)] ++ [], x.key ≠ 2) ∧
      signedDiff (s 59999).localTime 0 < 60 * 1000 ∧ ¬signedDiff (s 60000).localTime 0 < 60 * 1000 ∧
      ∀ x ∈ (s 0).repeatTable, x.key ≠ 3 := by decide +kernel

/-- Slot (2, 2) is the victim in stage 2; in stage 1 there is none. -/
theorem test_meets_SearchForAVictim :
    let s := atTime 605004 square
    let c : Call := { tag := 0x203, cls := .general, preemptible := false, admitTime := 520000, origin := 2 }
    let stage2 := { e01 with escalated := true }
    e01.sector :: (s.sector e01.sector).neighbours = [] ++ 2 :: [3] ∧ s.slot 2 2 = .active c ∧ (s.sector 2).capacity = 4 ∧
      (s.sector 2).state = .opened ∧ c.cls = .general ∧ stage2.escalated = true ∧
      (∀ m d, s.slot 2 m = .active d → d.cls = .general → m = 2) ∧
      ∀ t n c, s.slot t n = .active c → c.cls = .general → c.preemptible = false := by
  refine ⟨by decide +kernel, by decide +kernel, by decide +kernel, by decide +kernel, by decide, rfl, ?_, ?_⟩
  · have h : ∀ m, ∀ d ∈ ((atTime 605004 square).slot 2 m).call?, d.cls = .general → m = 2 := by decide +kernel
    exact fun m d e => h m d (by simp [e, Slot.call?])
  · have h : ∀ t n, ∀ d ∈ ((atTime 605004 square).slot t n).call?, d.cls = .general → d.preemptible = false := by decide +kernel
    exact fun t n d e => h t n d (by simp [e, Slot.call?])

/-- A pass with nothing to serve; one with a victim, the action lane at 48 and at 47. -/
theorem test_meets_PassServesOldestFirst :
    let e := { e01 with escalated := true }
    let s := fun n : Nat => withLane n { square with emergency := [e] }
    square.RecordsPaired ∧ square.emergency = [] ∧
      ∀ n ∈ [47, 48], (s n).RecordsPaired ∧ (s n).emergency = [] ++ e :: [] ∧ e.earmark = none ∧
        (s n).searchVictim e = some (2, 2, ⟨0x203, .general, false, 520000, 2⟩) ∧ (s n).link.actionLane.length = n := by
  refine ⟨square_paired, by decide, fun n hn => ⟨withLane_paired (square_waiting_paired _ (.inr rfl)) n, ?_⟩⟩
  revert n
  decide +kernel

/-- A FREE slot of a sector for which entries of the classes in `l` wait. -/
def freed (l : List CallClass) : State :=
  let s := withSlots [((4, 0), .active (urgent 7 4))] (withSector 4 { openSector 2 with neighbours := [5] } State.reset)
  { s with emergency := if .emergency ∈ l then [entry .emergency 11 4] else []
           priority := if .priority ∈ l then [entry .priority 12 4] else []
           general := if .general ∈ l then [entry .general 13 4] else [] }

/-- Each class as the candidate, and no candidate at all. -/
theorem test_meets_FreedSlotService :
    let all : List (List CallClass) := [[.emergency, .priority, .general], [.priority, .general], [.general], []]
    ∀ l ∈ all, (freed l).RecordsPaired ∧ (freed l).slot 4 1 = .free ∧ ((freed l).sector 4).state = .opened ∧
      min ((freed l).sector 4).generalGuard ((freed l).sector 4).capacity < (freed l).freeCount 4 ∧
      min ((freed l).sector 4).priorityGuard ((freed l).sector 4).capacity < (freed l).freeCount 4 := by
  intro all l hl
  refine ⟨recordsPaired_of [((4, 0), .active (urgent 7 4))] ?_, ?_⟩
  all_goals revert l; decide +kernel

/-- An entry with an earmark as the candidate, the action lane at 47 and at 46. -/
theorem test_meets_FreedSlotService_earmark :
    let s := fun n : Nat => withLane n (withSlots [((3, 1), .free)] (vacating .first 607004))
    ∀ n ∈ [46, 47], (s n).RecordsPaired ∧ (s n).slot 3 1 = .free ∧ ((s n).sector 3).state = .opened ∧
      (s n).emergency.map Waiting.earmark = [some (2, 2)] ∧ 3 ∈ ((s n).sector 2).neighbours ∧
      (s n).slot 2 2 = .vacating ⟨0x203, .general, false, 520000, 2⟩ (vacate22 .first 607004) ∧ (s n).link.actionLane.length = n := by
  intro s n hn
  have paired : (withSlots [((3, 1), .free)] (vacating .first 607004)).RecordsPaired :=
    recordsPaired_of (slot22 .first 607004 :: squareCalls) (by decide +kernel)
  refine ⟨withLane_paired paired n, ?_⟩
  revert n
  decide +kernel

theorem test_meets_DeferredServiceRetryAndPass :
    let s := ran .frameEnd deferred
    let u := { square with passDeferred := true, passSignal := true }
    (s.inReset = false ∧ s.retrySignal = true ∧ s.serviceDeferred = true) ∧
      (u.inReset = false ∧ u.retrySignal = false ∧ u.passSignal = true ∧ u.passDeferred = true) := by decide +kernel

/-- Calls below and at the capacity of a sector, one STUCK; and the one call of a DRAINING sector. -/
def releasingCalls : List (Place × Slot) :=
  [((8, 0), .active (general 0x81 0 8)), ((8, 2), .stuck (general 0x82 0 8)), ((9, 0), .active (general 0x91 0 9))]

def releasing : State :=
  withSlots releasingCalls (withSector 9 { openSector 1 with state := .draining } (withSector 8 (openSector 2)
    { State.reset with general := [entry .general 0x83 8] }))

theorem releasing_lawful : releasing.SlotsLawful := slotsLawful_of (by decide +kernel)

/-- Tag 0, a waiting tag, a tag not held; an ACTIVE slot below the capacity, a STUCK one at it, the last call of a DRAINING
sector. -/
theorem test_meets_ReleaseOfActiveOrStuckSlot :
    (∀ i ∈ [Instr.release (.ok 0), .release (.ok 0x83), .release (.ok 0xFF), .release (.ok 0x81), .release (.ok 0x82),
        .release (.ok 0x91)],
      (asked i releasing).Takes i ∧ (asked i releasing).RecordsPaired ∧ (asked i releasing).SlotsLawful) ∧
      0x83 ∈ releasing.waitingTags ∧ ¬releasing.Holds 0xFF ∧ releasing.slot 8 0 = .active (general 0x81 0 8) ∧
      releasing.slot 8 2 = .stuck (general 0x82 0 8) ∧ releasing.slot 9 0 = .active (general 0x91 0 9) ∧
      releasing.occupancy 9 = 1 := by
  have paired : releasing.RecordsPaired := recordsPaired_of releasingCalls (by decide +kernel)
  refine ⟨fun i hi => ⟨takes_of ?_, asked_paired paired i, asked_lawful releasing_lawful i⟩, by decide +kernel,
    by rw [holds_iff]; decide +kernel, by decide +kernel⟩
  revert i
  decide +kernel

/-- With a beneficiary, the action lane at 47 and at 48. -/
theorem test_meets_ReleaseOfVacatingSlot :
    let i := Instr.release (.ok 0x203)
    let s := fun n : Nat => asked i (withLane n (vacating .second 609008))
    ∀ n ∈ [47, 48], (s n).Takes i ∧ (s n).RecordsPaired ∧ (s n).SlotsLawful ∧
      (s n).slot 2 2 = .vacating ⟨0x203, .general, false, 520000, 2⟩ (vacate22 .second 609008) ∧
      (s n).emergency.map Waiting.tag = [0xE01] ∧ (s n).link.actionLane.length = n := by
  refine fun n hn => ⟨takes_of ?_, asked_paired (withLane_paired vacating_second_paired n) _,
    asked_lawful (withLane_lawful vacating_second_lawful n) _, ?_⟩
  all_goals revert n; decide +kernel

/-- A slot that vacates for no one. -/
def lone : Slot := .vacating (general 0x301 0 3) ⟨.second, 607004, .watched, none⟩

theorem lone_paired : (withSlots [((3, 0), lone)] square).RecordsPaired :=
  recordsPaired_of (((3, 0), lone) :: squareCalls) (by decide +kernel)

theorem lone_lawful : (withSlots [((3, 0), lone)] square).SlotsLawful := slotsLawful_of (by decide +kernel)

/-- Without a beneficiary. -/
theorem test_meets_ReleaseOfVacatingSlot_lone :
    let i := Instr.release (.ok 0x301)
    let s := asked i (withSlots [((3, 0), lone)] square)
    s.Takes i ∧ s.RecordsPaired ∧ s.SlotsLawful ∧ s.slot 3 0 = lone :=
  ⟨takes_of (by decide +kernel), asked_paired lone_paired _, asked_lawful lone_lawful _, by decide +kernel⟩

/-- An entry with an earmark and one without. -/
def cancelling : State := { vacating .first 607004 with general := [entry .general 0xE02 2] }

theorem cancelling_paired : cancelling.RecordsPaired :=
  recordsPaired_of (slot22 .first 607004 :: squareCalls) (by decide +kernel)

/-- Tag 0, a call's tag, a tag not held, an entry with an earmark; and one without. -/
theorem test_meets_CancelOfWaitingEntry :
    (∀ i ∈ [Instr.cancel (.ok 0), .cancel (.ok 0x203), .cancel (.ok 0xFF), .cancel (.ok 0xE01), .cancel (.ok 0xE02)],
      (asked i cancelling).Takes i ∧ (asked i cancelling).RecordsPaired) ∧
      (cancelling.slot 2 2).call?.map Call.tag = some 0x203 ∧ ¬cancelling.Holds 0xFF ∧
      cancelling.emergency.map Waiting.earmark = [some (2, 2)] ∧ cancelling.general = [] ++ entry .general 0xE02 2 :: [] := by
  refine ⟨fun i hi => ⟨takes_of ?_, asked_paired cancelling_paired i⟩, by decide +kernel, by rw [holds_iff]; decide +kernel,
    by decide +kernel⟩
  revert i
  decide +kernel

/-- Fields at the tops of their ranges. -/
def widest : SectorSetFields := ⟨15, 24, 24, 24, 3, 0, 1, 2, 16, 255⟩

theorem widest_accepted (s : State) (h : s.guardLock = false) : s.AcceptsSectorSet widest :=
  { sector := by decide, capacity := by decide, guards := by decide, neighbourCount := by decide, neighbours := by decide,
    neighboursDistinct := by decide, weight := by decide, depth := by decide, lock := by simp [h] }

theorem test_meets_SectorSetChecks : (asked (.sectorSet (.ok widest)) burst).Takes (.sectorSet (.ok widest)) :=
  takes_of (by decide +kernel)

/-- A DISABLED sector; and an OPEN one whose cut to 0 reaches a slot with a beneficiary. -/
theorem test_meets_SectorSetTakesEffect :
    let cut : SectorSetFields := ⟨2, 0, 0, 0, 1, 3, 0, 0, 1, 1⟩
    let i := Instr.sectorSet (.ok widest)
    let j := Instr.sectorSet (.ok cut)
    let s := asked i (vacating .second 609008)
    let u := asked j (vacating .first 607004)
    (s.Takes i ∧ s.AcceptsSectorSet widest ∧ s.RecordsPaired ∧ s.SlotsLawful ∧ (s.sector 15).state = .disabled) ∧
      u.Takes j ∧ u.AcceptsSectorSet cut ∧ u.RecordsPaired ∧ u.SlotsLawful ∧ (u.slot 2 2).earmarked = true := by
  refine ⟨⟨takes_of (by decide +kernel), widest_accepted _ (by decide +kernel), asked_paired vacating_second_paired _,
    asked_lawful vacating_second_lawful _, by decide +kernel⟩, takes_of (by decide +kernel), ?_,
    asked_paired vacating_first_paired _, asked_lawful vacating_first_lawful _, by decide +kernel⟩
  exact { sector := by decide, capacity := by decide, guards := by decide, neighbourCount := by decide, neighbours := by decide,
          neighboursDistinct := by decide, weight := by decide, depth := by decide, lock := by decide +kernel }

/-- A sector out of range, one that is not OPEN, an empty OPEN one, one with an earmarked slot. -/
theorem test_meets_SectorDrain :
    let s := withSector 15 (openSector 0) (vacating .first 607004)
    (∀ i ∈ [Instr.sectorDrain (.ok 16), .sectorDrain (.ok 0), .sectorDrain (.ok 15), .sectorDrain (.ok 2)],
      (asked i s).Takes i ∧ (asked i s).RecordsPaired) ∧
      ((s.sector 0).state, (s.sector 15).state, s.occupancy 15, (s.sector 2).state, (s.slot 2 2).earmarked) =
        (.disabled, .opened, 0, .opened, true) := by
  have paired : (withSector 15 (openSector 0) (vacating .first 607004)).RecordsPaired :=
    recordsPaired_of (slot22 .first 607004 :: squareCalls) (by decide +kernel)
  refine ⟨fun i hi => ⟨takes_of ?_, asked_paired paired i⟩, by decide +kernel⟩
  revert i
  decide +kernel

theorem test_meets_SectorResume :
    ∀ i ∈ [Instr.sectorResume (.ok 15), .sectorResume (.ok 16)], (asked i burst).Takes i := by
  refine fun i hi => takes_of ?_
  revert i
  decide +kernel

/-- A sector out of range, a DRAINING one, an OPEN one with a call, a DISABLED one, an empty OPEN one. -/
theorem test_meets_SectorDisable :
    let s := withSector 15 (openSector 0) releasing
    (∀ i ∈ [Instr.sectorDisable (.ok 16), .sectorDisable (.ok 9), .sectorDisable (.ok 8), .sectorDisable (.ok 0),
        .sectorDisable (.ok 15)], (asked i s).Takes i ∧ (asked i s).SlotsLawful) ∧
      ((s.sector 9).state, (s.sector 8).state, s.occupancy 8, (s.sector 0).state, (s.sector 15).state, s.occupancy 15) =
        (.draining, .opened, 2, .disabled, .opened, 0) ∧ ∀ e ∈ s.emergency ++ s.priority ++ s.general, e.sector ≠ 15 := by
  have lawful : (withSector 15 (openSector 0) releasing).SlotsLawful := slotsLawful_of (by decide +kernel)
  refine ⟨fun i hi => ⟨takes_of ?_, asked_lawful lawful i⟩, by decide +kernel⟩
  revert i
  decide +kernel

/-- An ASSIGN and a BAR. -/
theorem test_meets_ScreenSetDecision :
    let f : ScreenSetFields := ⟨31, 1, 0x1FFFFF, 0x0FFFFF, 1, 3, 1, 0⟩
    let new : ScreenContent := ⟨true, 0x0FFFFF, 0x0FFFFF, .assign .general true⟩
    let g : ScreenSetFields := ⟨0, 0, 0, 0, 2, 0, 0, 15⟩
    ((asked (.screenSet (.ok f)) burst).Takes (.screenSet (.ok f)) ∧ (asked (.screenSet (.ok g)) burst).Takes (.screenSet (.ok g))) ∧
      new.enabled = decide (f.enabled = 1) ∧ new.mask = f.mask.setWidth 21 ∧
      (∀ n < 21, new.matchValue.getLsbD n = (f.matchValue.getLsbD n && f.mask.getLsbD n)) ∧ f.action = 1 ∧
      f.cls = 3 ∧ new.action = .assign .general (decide (f.preemptible = 1)) ∧
      g.action = 2 ∧ (15 : Fin 16).val = g.reason.toNat := by
  refine ⟨⟨takes_of (by decide +kernel), takes_of (by decide +kernel)⟩, ?_⟩
  decide +kernel

theorem test_meets_ScreenHold :
    ∀ i ∈ [Instr.screenHold (.ok 31), .screenHold (.ok 32)], (asked i burst).Takes i := by
  refine fun i hi => takes_of ?_
  revert i
  decide +kernel

/-- No hold; under the lock, a hold that would be weakened, and one that would not. -/
theorem test_meets_ScreenFree :
    let i := Instr.screenFree (.ok ())
    let held := fun a : ScreenAction => asked i
      { burst.setScreenEntry 3 (matchAll a) with
        guardLock := true
        screening := { (burst.setScreenEntry 3 (matchAll a)).screening with
          hold := some ⟨3, (matchAll (.assign .emergency false)).content⟩ } }
    (asked i burst).Takes i ∧ (asked i burst).screening.hold = none ∧
      ∀ a ∈ [ScreenAction.bar 1, .assign .emergency false], (held a).Takes i ∧ (held a).guardLock = true ∧
        (held a).screening.hold = some ⟨3, (matchAll (.assign .emergency false)).content⟩ ∧
        ((held a).screenEntry 3).content.action = a := by
  refine ⟨takes_of (by decide +kernel), by decide +kernel, fun a ha => ⟨takes_of ?_, ?_⟩⟩
  all_goals revert a; decide +kernel

theorem test_meets_LevelSetTimerSetGuardLock :
    let l := Instr.levelSet (.ok ⟨7, 4095, 255, 100, 512, 4095⟩)
    let t := Instr.timerSet (.ok ⟨255, 255, 255, 60, 10000, 600, 4095, 2, 5000⟩)
    let g := Instr.guardLock (.ok ())
    (asked l burst).Takes l ∧ (asked t burst).Takes t ∧ (asked g { burst with guardLock := true }).Takes g :=
  ⟨takes_of (by decide +kernel), takes_of (by decide +kernel), takes_of (by decide +kernel)⟩

/-- A state with these reports in its status lane, the head in transmission. -/
def withStatus (l : List StatusReport) (s : State) : State :=
  { s with link := { s.link with statusLane := l, sending := some ⟨.status, [], 0⟩ } }

/-- A state with an open window that closes at a time, and now at another. -/
def surging (close now : Nat) (due : Bool) : State :=
  atTime now { burst with governor := { burst.governor with surge := some ⟨5, BitVec.ofNat 32 close, due⟩ } }

/-- A lane with a report of the same kind in transmission and one behind it, and lanes of 31 and 32; durations 0, 1, 3600 and 3601,
floors 7 and 8. -/
theorem test_meets_SurgeOpen :
    (let s := withStatus [.surge .opened 3 9, .drained 1, .surge .closing 3 5] burst
     s.link.statusLane = [.surge .opened 3 9] ++ [.drained 1] ++ .surge .closing 3 5 :: [] ∧
      s.link.sending.map Sending.source = some .status) ∧
    (∀ n ∈ [31, 32], (withStatus (List.replicate n (.drained 1)) burst).link.statusLane.length = n ∧
      ∀ x ∈ (withStatus (List.replicate n (.drained 1)) burst).link.statusLane.drop 1, x = .drained 1) ∧
    ∀ f ∈ [(⟨0, 7⟩ : SurgeOpenFields), ⟨1, 7⟩, ⟨1, 8⟩, ⟨3600, 7⟩, ⟨3601, 7⟩],
      (asked (.surgeOpen (.ok f)) burst).Takes (.surgeOpen (.ok f)) := by
  refine ⟨by decide +kernel, by decide +kernel, fun f hf => takes_of ?_⟩
  revert f
  decide +kernel

/-- Seconds 0 and 3601, a closed window, and a window with 0 and with 3600000 ms left. -/
theorem test_meets_SurgeExtend :
    let i := Instr.surgeExtend (.ok 1)
    (∀ i ∈ [Instr.surgeExtend (.ok 0), .surgeExtend (.ok 1), .surgeExtend (.ok 3600), .surgeExtend (.ok 3601)],
      (asked i burst).Takes i) ∧
      burst.governor.surge = none ∧ (asked i (surging 7 7 false)).Takes i ∧ (asked i (surging 3600007 7 false)).Takes i ∧
      (7 : Time) = after (surging 7 7 false).localTime 0 ∧
      (3600007 : Time) = after (surging 3600007 7 false).localTime 3600000 := by
  refine ⟨fun i hi => takes_of ?_, by decide +kernel, takes_of (by decide +kernel), takes_of (by decide +kernel),
    by decide +kernel, by decide +kernel⟩
  revert i
  decide +kernel

/-- SURGE-CLOSE with the window closed and open; the close time at the instant it is reached; the closing point 10000 ms before and
at 0. -/
theorem test_meets_SurgeWindowEnds :
    let i := Instr.surgeClose (.ok ())
    (asked i burst).Takes i ∧ burst.governor.surge = none ∧ (asked i (surging 9 9 false)).Takes i ∧
      ((surging 9 9 false).inReset = false ∧ (surging 9 9 false).governor.surge = some ⟨5, 9, false⟩ ∧
        signedDiff (surging 9 9 false).localTime 9 = 0) ∧
      ∀ left ∈ [0, 10000], (surging (9 + left) 9 true).inReset = false ∧
        (surging (9 + left) 9 true).governor.surge = some ⟨5, after (surging (9 + left) 9 true).localTime left, true⟩ := by
  refine ⟨takes_of (by decide +kernel), by decide +kernel, takes_of (by decide +kernel), ?_⟩
  decide +kernel

theorem test_meets_PressureUpdate : ∀ w ∈ [1, 16], 4095 ≤ 4095 ∧ 0 ≤ 4095 ∧ 1 ≤ w ∧ w ≤ 16 := by decide

/-- Two votes UP below level 7; two votes DOWN above the floor by one; two votes DOWN at the floor. -/
theorem test_meets_VoteMovesTheLevel :
    let votes := fun (h : VoteHistory) (new v : Vote) => [h.middle, h.newest, new].count v
    2 ≤ votes ⟨.up, .down, .up⟩ .up .up ∧ 2 ≤ votes ⟨.up, .hold, .down⟩ .down .down ∧
      votes ⟨.up, .hold, .down⟩ .down .up < 2 ∧
      (∀ x, some (⟨3, 0, false⟩ : Surge) = some x → x.floor.val + 1 ≤ (4 : LevelId).val) ∧
      ¬∀ x, some (⟨4, 0, false⟩ : Surge) = some x → x.floor.val + 1 ≤ (4 : LevelId).val := by decide +kernel

/-- The laws of ranges on the sector and tables of the worked examples. -/
theorem burst_inRange : burst.InRange where
  sectors t := by
    refine sectorInRange_of ?_
    revert t
    decide +kernel
  activeTable l := by
    unfold LevelRow.InRange
    revert l
    decide +kernel
  stagedTable l := by
    unfold LevelRow.InRange
    revert l
    decide +kernel
  activePeriod := by unfold PeriodInRange; decide +kernel
  stagedPeriod := by unfold PeriodInRange; decide +kernel
  settings := by
    constructor <;> decide +kernel
  floor w h := by
    have none : burst.governor.surge = none := by decide +kernel
    rw [none] at h
    cases h

theorem atTime_inRange {s : State} (h : s.InRange) (n : Nat) : (atTime n s).InRange := { h with }

/-- At the instant that the boundary is reached. -/
theorem test_meets_EpochBoundary :
    (atTime 1000 burst).inReset = false ∧ (atTime 1000 burst).InRange ∧
      0 = signedDiff (atTime 1000 burst).localTime (atTime 1000 burst).governor.nextBoundary :=
  ⟨by decide +kernel, atTime_inRange burst_inRange _, by decide +kernel⟩

/-- 12 pairs; a sector and a slot out of range; agreement and a mismatch in the last pair. -/
theorem test_meets_AuditComparesPairs :
    let good : List AuditPair := List.replicate 11 ⟨0, 0x601⟩
    let c : List AuditFields := [⟨16, good⟩, ⟨6, good ++ [⟨24, 0⟩]⟩, ⟨6, good ++ [⟨23, 0⟩]⟩, ⟨6, good ++ [⟨8, 1⟩]⟩]
    (∀ f ∈ c, (asked (.audit (.ok f)) burst).Takes (.audit (.ok f)) ∧ 1 ≤ f.pairs.length ∧ f.pairs.length ≤ 12) ∧
      (burst.slot 6 0).call?.map Call.tag = some 0x601 ∧ (burst.slot 6 23).call? = none ∧ (burst.slot 6 8).call? = none := by
  refine ⟨fun f hf => ⟨takes_of ?_, ?_⟩, by decide +kernel⟩
  all_goals revert f; decide +kernel

theorem test_meets_QueriesReadTheState :
    ∀ i ∈ [Instr.queryStatus (.ok ()), .queryLevels (.ok ()), .querySector (.ok 15), .querySector (.ok 16),
      .querySlots (.ok ⟨15, 23⟩), .querySlots (.ok ⟨0, 24⟩), .queryList (.ok ⟨1, 1⟩), .queryList (.ok ⟨3, 1⟩), .queryList (.ok ⟨3, 0⟩), .queryList (.ok ⟨4, 0⟩),
      .queryScreen (.ok 31), .queryScreen (.ok 32)], (asked i burst).Takes i := by
  refine fun i hi => takes_of ?_
  revert i
  decide +kernel

/-- A window closed, open at its close time, and open with 9 s left; an open hold; an emergency entry. -/
theorem test_meets_QueriesReadTheState_figures :
    burst.governor.surge = none ∧ (surging 9 9 false).governor.surge = some ⟨5, 9, false⟩ ∧
      signedDiff (9 : Time) (surging 9 9 false).localTime ≤ 0 ∧ signedDiff (9009 : Time) (surging 9009 9 false).localTime = 9000 ∧
      burst.screening.hold = none ∧ burst.emergency = [] ∧
      (ran (.screenHold (.ok 31)) (asked (.screenHold (.ok 31)) (burst.setScreenEntry 31 (matchAll (.bar 1))))).screening.hold =
        some ⟨31, (matchAll (.bar 1)).content⟩ ∧
      ({ burst with emergency := [e01] } : State).emergency = e01 :: [] := by decide +kernel

theorem test_meets_RestartClearsTheWaiting : (asked (.restart (.ok ())) burst).Takes (.restart (.ok ())) :=
  takes_of (by decide +kernel)

/-- An unknown kind; and a RELEASE body one octet too long. -/
theorem test_meets_UnknownKindAndBadLength :
    let f : Frame := ⟨2, [0, 0, 0, 0, 0]⟩
    RequestKind.ofCode 0 = none ∧ (asked (.unknownKind 0 []) burst).Takes (.unknownKind 0 []) ∧ RequestKind.ofCode f.kind = some .release ∧
      RequestKind.release.bodyFits f.body = false ∧
      ({ burst with link := { burst.link with requestQueue := [f] } } : State).TakesFrame f := by
  refine ⟨by decide, takes_of (by decide +kernel), by decide, by decide, ?_⟩
  unfold State.TakesFrame
  decide +kernel

/-- A part held in reset. -/
theorem test_meets_PowerOnReset : State.powerOn.inReset = true := by decide +kernel

/-- A receiver that waits for the line and one that does not; a start bit that reads high and one that reads low; the octets at the ends of the length range and just out of it. -/
theorem test_meets_ReceiverEvents :
    let level := fun x : CentreSamples => 2 ≤ [x.s7, x.s8, x.s9].count true
    let lo : CentreSamples := ⟨false, true, false⟩
    let hi : CentreSamples := ⟨false, true, true⟩
    burst.inReset = false ∧ burst.link.lineLow = false ∧ (burst.setLineLow true).link.lineLow = true ∧ level hi ∧ ¬level lo ∧
      (∀ i x, [lo, hi, lo, hi, hi, lo, hi, lo][i]? = some x → ((0x5A : Octet).getLsbD i = true ↔ level x)) ∧
      (∀ o ∈ [(1 : Octet), 248], 1 ≤ o.toNat ∧ o.toNat ≤ 248) ∧ 249 ≤ (249 : Octet).toNat ∧
      inCheck.link.receiver = .check (2 :: [0, 0, 2, 3]) (some ((crc [5, 2, 0, 0, 2, 3]).extractLsb' 8 8)) := by
  refine ⟨by decide +kernel, by decide +kernel, rfl, by decide, by decide, ?_, by decide, by decide, by decide +kernel⟩
  intro i x hx
  have small : i < 8 := by
    have := (List.getElem?_eq_some_iff.mp hx).1
    simpa using this
  revert x
  interval_cases i <;> simp

/-- An idle transmitter with THOLD deasserted, one under THOLD, and one with a frame. -/
theorem test_meets_TransmitterChoosesAtABoundary :
    (burst.inReset = false ∧ burst.link.sending = none ∧ burst.link.thold = false) ∧
      (ran (.tholdAsserted 2) burst).link.thold = true ∧ deferred.link.sending ≠ none ∧ deferred.link.thold = false := by
  decide +kernel

/-- The end of a frame from each source; of an action report with an answer owed and with none. -/
theorem test_meets_FrameEndLeavesItsLane :
    (let s := ran .frameEnd deferred
     let owing := { s with link := { s.link with sending := some ⟨.action, [], 0⟩ } }
     owing.inReset = false ∧ owing.link.sending = some ⟨.action, [], 0⟩ ∧ owing.retrySignal = true) ∧ burst.answersOwed = false ∧
    ∀ src ∈ [Source.action, .reply, .status],
      let s := { burst with link := { burst.link with sending := some ⟨src, [], 0⟩ } }
      s.inReset = false ∧ s.link.sending = some ⟨src, [], 0⟩ := by decide +kernel

/-- A deadline at the instant it is reached, and one delivered again; the action lane at 47 and at 48; with an earmark and
without. -/
theorem test_meets_WaitingExpiry :
    let e := fun w : Watch => { entry .general 0xC01 2 with watch := w }
    let s := fun (w : Watch) (n : Nat) => atTime 8000 (withLane n ({ vacating .first 607004 with general := [e w] }))
    let u := atTime 660000 (vacating .first 607004)
    (∀ w ∈ [Watch.watched, .signalled], ∀ n ∈ [47, 48], (s w n).inReset = false ∧ (s w n).RecordsPaired ∧
      (s w n).waiting .general = [] ++ e w :: [] ∧ signedDiff (s w n).localTime (e w).deadline = 0 ∧
      (s w n).link.actionLane.length = n) ∧
      u.RecordsPaired ∧ u.emergency.map Waiting.deadline = [u.localTime] ∧ u.emergency.map Waiting.earmark = [some (2, 2)] := by
  have paired : ∀ w ∈ [Watch.watched, .signalled],
      ({ vacating .first 607004 with general := [{ entry .general 0xC01 2 with watch := w }] } : State).RecordsPaired := by
    intro w hw
    refine recordsPaired_of (slot22 .first 607004 :: squareCalls) ?_
    revert w
    decide +kernel
  refine ⟨fun w hw n hn => ⟨by rfl, atTime_paired (withLane_paired (paired w hw) n) _, ?_⟩,
    atTime_paired vacating_first_paired _, by decide +kernel⟩
  revert w n
  decide +kernel

/-- An escalation point at the instant it is reached, of an entry without and with an earmark. -/
theorem test_meets_Escalation :
    let s := atTime 605000 { square with emergency := [e01] }
    let u := atTime 605000 { vacating .first 607004 with emergency := [{ e01 with earmark := some (2, 2) }] }
    (s.inReset = false ∧ s.RecordsPaired ∧ s.emergency = [] ++ e01 :: [] ∧ e01.escalationPoint = some 605000 ∧
      signedDiff s.localTime 605000 = 0 ∧ e01.earmark = none) ∧
      u.inReset = false ∧ u.RecordsPaired ∧ u.emergency = [] ++ { e01 with earmark := some (2, 2) } :: [] := by
  refine ⟨⟨by decide +kernel, atTime_paired (square_waiting_paired _ (.inl rfl)) _, by decide +kernel⟩, by decide +kernel,
    recordsPaired_of (slot22 .first 607004 :: squareCalls) (by decide +kernel), by decide +kernel⟩

/-- A vacate deadline at the instant it is reached, at both attempts, with a beneficiary and without; the action lane at 47 and at
48. -/
theorem test_meets_VacateExpiry :
    let s := fun n : Nat => atTime 607004 (withLane n (vacating .first 607004))
    let t := fun n : Nat => atTime 609008 (withLane n (vacating .second 609008))
    let u := atTime 607004 (withSlots [((3, 0), lone)] square)
    (∀ n ∈ [47, 48], (s n).inReset = false ∧ (s n).RecordsPaired ∧
      (s n).slot 2 2 = .vacating ⟨0x203, .general, false, 520000, 2⟩ (vacate22 .first (s n).localTime) ∧
      (s n).link.actionLane.length = n) ∧
      (∀ n ∈ [47, 48], (t n).inReset = false ∧ (t n).RecordsPaired ∧
        (t n).slot 2 2 = .vacating ⟨0x203, .general, false, 520000, 2⟩ (vacate22 .second (t n).localTime) ∧
        (t n).emergency.map Waiting.tag = [0xE01] ∧ (t n).link.actionLane.length = n) ∧
      u.RecordsPaired ∧ u.inReset = false ∧ u.slot 3 0 = lone := by
  refine ⟨fun n hn => ⟨?_, atTime_paired (withLane_paired vacating_first_paired n) _, ?_⟩,
    fun n hn => ⟨?_, atTime_paired (withLane_paired vacating_second_paired n) _, ?_⟩, atTime_paired lone_paired _, by decide +kernel⟩
  all_goals revert n; decide +kernel

/-- A part at work: a surge window is open, slot (2, 2) vacates for 0xE01, a preemption order is being sent, an entry is held. -/
def running : State :=
  let s := vacating .first 607004
  { s with
    localTime := 600000
    governor := { s.governor with nextBoundary := 600500, surge := some ⟨0, 620000, true⟩ }
    guardLock := true
    screening := { (s.setScreenEntry 31 (matchAll (.assign .emergency false))).screening with
      hold := some ⟨31, (matchAll (.assign .emergency false)).content⟩ }
    link := { s.link with
      actionLane := [.preempt 0x203 (2, 2) .first], statusLane := [.surge .opened 0 30]
      sending := some ⟨.action, wireFrame 0xC2 [0, 0, 2, 3, 2, 2, 1], 1⟩, receiver := .body 5 [2] }
    pending := [.gapTimeout, .frameEnd] }

theorem running_steps : ∃ t, step running = .next t := ⟨_, rfl⟩

theorem test_meets_StepKeepsTheBounds : running.InBounds ∧ running.LanesLawful ∧ ∃ t, step running = .next t := by
  refine ⟨?_, ?_, running_steps⟩
  · constructor <;> first | decide +kernel | exact (by decide : 1 ≤ 5 ∧ 5 ≤ 248 ∧ 1 < 5)
  · constructor
    · decide +kernel
    · decide +kernel
    · decide +kernel
    · decide +kernel

theorem test_meets_StepKeepsTheRanges : running.InRange ∧ ∃ t, step running = .next t := by
  refine ⟨?_, running_steps⟩
  constructor
  · intro t
    refine sectorInRange_of ?_
    revert t
    decide +kernel
  · intro l
    unfold LevelRow.InRange
    revert l
    decide +kernel
  · intro l
    unfold LevelRow.InRange
    revert l
    decide +kernel
  · unfold PeriodInRange; decide +kernel
  · unfold PeriodInRange; decide +kernel
  · constructor <;> decide +kernel
  · intro w h
    have floor : ∀ v ∈ running.governor.surge, v.floor = 0 := by decide +kernel
    simp [floor w h]

theorem test_meets_StepKeepsTheSlots : running.SlotsLawful ∧ ∃ t, step running = .next t :=
  ⟨slotsLawful_of (by decide +kernel), running_steps⟩

theorem test_meets_StepKeepsTheRecords : running.RecordsPaired ∧ ∃ t, step running = .next t :=
  ⟨recordsPaired_of (slot22 .first 607004 :: squareCalls) (by decide +kernel), running_steps⟩

theorem test_meets_StepKeepsScreeningAndTheGuardLock :
    running.ScreenLawful ∧ (∃ t, step running = .next t) ∧ running.guardLock = true ∧
      running.pending.head? ≠ some .powerOnReset ∧ (running.scanned 31).enabled = true ∧
      (running.scanned 31).action.assignsEmergency = true := by
  refine ⟨⟨by decide +kernel, ?_, ?_⟩, running_steps, by decide +kernel⟩
  · have bars : ∀ i : ScreenIndex, ∀ r : Fin 16, (running.screenEntry i).content.action = .bar r → 1 ≤ r.val := by decide +kernel
    exact bars
  · have held : ∀ h ∈ running.screening.hold, (running.screenEntry h.index).content.enabled = true ∧
        h.copy = { (running.screenEntry h.index).content with action := h.copy.action } := by decide +kernel
    exact held

theorem test_meets_StepKeepsTheTime : running.ResetHeld ∧ running.OnTime ∧ ∃ t, step running = .next t := by
  have out : running.inReset = false := by decide +kernel
  refine ⟨fun h => by simp [out] at h, ?_, running_steps⟩
  constructor
  · decide +kernel
  · have window : ∀ w ∈ running.governor.surge, 0 ≤ signedDiff w.close running.localTime ∧
        signedDiff w.close running.localTime ≤ 3600000 ∧
        (w.noticeDue = true → 10000 ≤ signedDiff w.close running.localTime) := by decide +kernel
    exact window
  · simp only [SweepOnTime]
    decide +kernel
  · have points : ∀ e ∈ running.emergency, e.escalationPoint = none := by decide +kernel
    intro e he p hp
    simp [points e he] at hp
  · have deadlines : ∀ t n, (running.slot t n).vacate? = none ∨
        (running.slot t n).vacate? = some (vacate22 .first 607004) := by decide +kernel
    intro t n c v h _
    rcases deadlines t n with d | d
    · simp [h, Slot.vacate?] at d
    · have : v = vacate22 .first 607004 := by simpa [h, Slot.vacate?] using d
      subst this
      unfold SweepOnTime
      decide +kernel

end Sys2Proof.Tests
end

section
/-! SUPPORT. What admission work keeps of the sector records and of a sector's occupancy, and what offering a status report reads. -/

namespace Sys2Proof.Machine

/-! ## Status reports -/

/-- Offering a status report reads and writes the link port alone. -/
theorem State.offerStatus_of_link_eq {s u : State} (h : u.link = s.link) (r : StatusReport) :
    u.offerStatus r = { u with link := (s.offerStatus r).link } := by
  simp only [State.offerStatus, h]
  split_ifs <;> rfl

/-! ## Sector records -/

theorem State.withdraw_sectors (s : State) (e : Waiting) : (s.withdraw e).sectors = s.sectors := by
  obtain ⟨_, h⟩ | ⟨t, n, c, v, _, _, h⟩ | ⟨t, n, _, _, h⟩ := s.withdraw_cases e <;> simp [h]

theorem State.grantWaiting_sectors (s : State) (t : SectorId) (n : SlotId) (e : Waiting) :
    (s.grantWaiting t n e).sectors = s.sectors := by
  simp [State.grantWaiting, State.removeWaiting]

theorem State.serveSlot_sectors (s : State) (t : SectorId) (n : SlotId) : (s.serveSlot t n).state.sectors = s.sectors := by
  obtain ⟨_, h⟩ | ⟨_, _, _, h⟩ | ⟨e, _, _, _, _, h⟩ | ⟨e, _, _, _, _, h⟩ := s.serveSlot_cases t n <;> rw [h]
  exact (State.grantWaiting_sectors _ _ _ _).trans (s.withdraw_sectors e)

theorem serveWalk_sectors (l : List Place) (s : State) : (serveWalk l s).sectors = s.sectors := by
  induction l generalizing s with
  | nil => rfl
  | cons p rest ih =>
    simp only [serveWalk]
    split
    · exact s.serveSlot_sectors p.1 p.2
    · exact (ih _).trans (s.serveSlot_sectors p.1 p.2)

theorem passWalk_sectors (l : List Waiting) (s : State) : (passWalk l s).sectors = s.sectors := by
  induction l generalizing s with
  | nil => rfl
  | cons e rest ih =>
    obtain ⟨_, h⟩ | ⟨_, _, h⟩ | ⟨_, _, _, _, h⟩ | ⟨t, n, c, _, _, _, h⟩ := passWalk_cons_cases e rest s <;> rw [h]
    · exact ih s
    · exact ih s
    · rw [ih, State.startPreemption]
      simp

theorem State.passIf_sectors (s : State) (b : Bool) : (s.passIf b).sectors = s.sectors := by
  cases b
  · rfl
  · exact passWalk_sectors _ _

/-- A sector record depends on the sector table alone. -/
theorem State.sector_congr {s u : State} (h : u.sectors = s.sectors) (t : SectorId) : u.sector t = s.sector t :=
  congrArg (fun x => Table.get x t) h

/-- A slot record depends on the slot table alone. -/
theorem State.slot_congr {s u : State} (h : u.slots = s.slots) (t : SectorId) (n : SlotId) : u.slot t n = s.slot t n :=
  congrArg (fun x => Table.get (Table.get x t) n) h

/-! ## Occupancy (R6) -/

/-- Two tables whose records a test finds alike hold as many records that meet it. -/
theorem Table.countP_congr {α : Type} {n : Nat} {t u : Table α n} {p : α → Bool} (h : ∀ i, p (t.get i) = p (u.get i)) :
    t.toList.countP p = u.toList.countP p := by
  have alike : t.toList.map p = u.toList.map p := by
    apply List.ext_getElem
    · simp [t.size_eq, u.size_eq]
    · intro i hi _
      rw [List.length_map, t.size_eq] at hi
      simpa [Table.get] using h ⟨i, hi⟩
  calc t.toList.countP p = (t.toList.map p).countP id := by simp [List.countP_map]
    _ = u.toList.countP p := by simp [alike, List.countP_map]

theorem State.occupancy_congr {s u : State} {t : SectorId}
    (h : ∀ n, (u.slot t n).occupied = (s.slot t n).occupied) : u.occupancy t = s.occupancy t :=
  Table.countP_congr h

/-- A sector with occupancy 0 has no call in any slot. -/
theorem State.call?_of_occupancy_zero {s : State} {t : SectorId} (h : s.occupancy t = 0) (n : SlotId) :
    (s.slot t n).call? = none := by
  have none_occupied := List.countP_eq_zero.mp h
  simpa [Slot.occupied] using none_occupied (s.slot t n) (List.getElem_mem _)

theorem mem_allSlots (n : SlotId) : n ∈ allSlots := by
  revert n
  decide

theorem mem_placesOf (t : SectorId) (p : Place) : p ∈ placesOf t ↔ p.1 = t := by
  obtain ⟨u, n⟩ := p
  simp [placesOf, mem_allSlots, eq_comm]

end Sys2Proof.Machine
end

section
/-! SUPPORT. The dropping of earmarks on a list of places (R14, R16, R111): what it leaves in the slots and in the emergency entries,
where entries and slots are paired (R88). -/

namespace Sys2Proof.Machine

/-! ## An entry and a slot without their side of an earmark -/

/-- A slot with the beneficiary of its vacate part cleared (R111). -/
def Slot.withoutBeneficiary : Slot → Slot
  | .vacating c v => .vacating c { v with beneficiary := none }
  | x => x

@[simp] theorem Slot.beneficiary?_withoutBeneficiary (x : Slot) : x.withoutBeneficiary.beneficiary? = none := by
  cases x <;> rfl

@[simp] theorem Slot.occupied_withoutBeneficiary (x : Slot) : x.withoutBeneficiary.occupied = x.occupied := by
  cases x <;> rfl

@[simp] theorem Slot.withoutBeneficiary_twice (x : Slot) : x.withoutBeneficiary.withoutBeneficiary = x.withoutBeneficiary := by
  cases x <;> rfl

theorem Slot.withoutBeneficiary_eq_self {x : Slot} (h : x.beneficiary? = none) : x.withoutBeneficiary = x := by
  cases x with
  | vacating c v =>
    obtain ⟨a, d, w, b⟩ := v
    obtain rfl : b = none := h
    rfl
  | _ => rfl

theorem Slot.earmarked_eq (x : Slot) : x.earmarked = x.beneficiary?.isSome := by
  cases x <;> rfl

theorem Waiting.withoutEarmarkOn_earmark (e : Waiting) (dropped : Place → Bool) (p : Place) :
    (e.withoutEarmarkOn dropped).earmark = some p ↔ e.earmark = some p ∧ dropped p = false := by
  simp [Waiting.withoutEarmarkOn, Option.filter_eq_some_iff]

theorem Waiting.withoutEarmarkOn_congr {e : Waiting} {dropped dropped' : Place → Bool}
    (h : ∀ p, e.earmark = some p → dropped p = dropped' p) : e.withoutEarmarkOn dropped = e.withoutEarmarkOn dropped' := by
  unfold Waiting.withoutEarmarkOn
  cases k : e.earmark with
  | none => rfl
  | some p => simp [Option.filter, h p k]

theorem Waiting.withoutEarmarkOn_twice (e : Waiting) (dropped dropped' : Place → Bool) :
    (e.withoutEarmarkOn dropped).withoutEarmarkOn dropped' = e.withoutEarmarkOn (fun p => dropped p || dropped' p) := by
  simp [Waiting.withoutEarmarkOn, Option.filter_filter]

/-- Nothing changes in an entry whose earmark is not among those dropped. -/
theorem Waiting.withoutEarmarkOn_eq_self {e : Waiting} {dropped : Place → Bool}
    (h : ∀ p, e.earmark = some p → dropped p = false) : e.withoutEarmarkOn dropped = e := by
  have kept : e.earmark.filter (fun p => !dropped p) = e.earmark := by
    cases k : e.earmark with
    | none => rfl
    | some p => simp [h p k]
  rw [Waiting.withoutEarmarkOn, kept]

/-- An entry whose earmark is among those dropped has none left. -/
theorem Waiting.withoutEarmarkOn_of_dropped {e : Waiting} {dropped : Place → Bool} {p : Place}
    (h : e.earmark = some p) (k : dropped p = true) : e.withoutEarmarkOn dropped = { e with earmark := none } := by
  simp [Waiting.withoutEarmarkOn, h, k]

/-! ## One earmark dropped -/

/-- The emergency entries and the slots name each other (R88). -/
def State.EarmarksPaired (s : State) : Prop :=
  ∀ e ∈ s.emergency, ∀ p : Place, e.earmark = some p ↔ (s.slot p.1 p.2).beneficiary? = some e.tag

variable {s : State}

theorem State.dropEarmark_slot (s : State) (p : Place) (u : SectorId) (m : SlotId) :
    (s.dropEarmark p.1 p.2).slot u m = if p = (u, m) then (s.slot u m).withoutBeneficiary else s.slot u m := by
  obtain ⟨t, n⟩ := p
  simp only [Prod.mk.injEq]
  obtain ⟨c, v, b, hs, _, h⟩ | ⟨hs, h⟩ := s.dropEarmark_cases t n
  · rw [h, State.slot_setEarmark, State.slot_setSlot]
    refine if_ctx_congr .rfl ?_ (fun _ => rfl)
    rintro ⟨rfl, rfl⟩
    rw [hs]
    rfl
  · rw [h]
    split
    next at_p =>
      obtain ⟨rfl, rfl⟩ := at_p
      exact (Slot.withoutBeneficiary_eq_self hs).symm
    next => rfl

theorem State.dropEarmark_emergency (h : s.EarmarksPaired) (p : Place) :
    (s.dropEarmark p.1 p.2).emergency = s.emergency.map (fun e => e.withoutEarmarkOn (fun q => decide (q = p))) := by
  obtain ⟨c, v, b, hs, hb, k⟩ | ⟨hs, k⟩ := s.dropEarmark_cases p.1 p.2
  · have holder : ∀ e ∈ s.emergency, e.earmark = some p ↔ e.tag = b := fun e he => by
      rw [h e he p, hs]
      simp [Slot.beneficiary?, hb, eq_comm]
    rw [k, State.setEarmark_emergency, State.setSlot_emergency]
    refine List.map_congr_left fun e he => ?_
    split
    next tag => exact (Waiting.withoutEarmarkOn_of_dropped ((holder e he).mpr tag) (by simp)).symm
    next other =>
      refine (Waiting.withoutEarmarkOn_eq_self fun q hq => ?_).symm
      simp only [decide_eq_false_iff_not]
      rintro rfl
      exact other ((holder e he).mp hq)
  · have unnamed : ∀ e ∈ s.emergency, e.earmark ≠ some p := fun e he => by simp [h e he p, hs]
    rw [k]
    refine (List.map_id' _).symm.trans (List.map_congr_left fun e he => ?_)
    refine (Waiting.withoutEarmarkOn_eq_self fun q hq => ?_).symm
    simp only [decide_eq_false_iff_not]
    rintro rfl
    exact unnamed e he hq

theorem State.EarmarksPaired.dropEarmark (h : s.EarmarksPaired) (p : Place) : (s.dropEarmark p.1 p.2).EarmarksPaired := by
  intro e' he' q
  rw [State.dropEarmark_emergency h, List.mem_map] at he'
  obtain ⟨e, he, rfl⟩ := he'
  rw [Waiting.withoutEarmarkOn_earmark, h e he q, State.dropEarmark_slot]
  by_cases at_p : p = q
  · subst at_p
    simp
  · simp [at_p, Ne.symm at_p, Waiting.withoutEarmarkOn]

/-- Dropping an earmark writes slots and emergency entries alone. -/
theorem State.dropEarmark_frame (s : State) (t : SectorId) (n : SlotId) :
    s.dropEarmark t n = { s with slots := (s.dropEarmark t n).slots, emergency := (s.dropEarmark t n).emergency } := by
  obtain ⟨c, v, b, _, _, h⟩ | ⟨_, h⟩ := s.dropEarmark_cases t n <;> rw [h]
  rfl

/-! ## The earmarks on a list of places dropped -/

theorem dropEarmarks_slot (l : List Place) (s : State) (u : SectorId) (m : SlotId) :
    (dropEarmarks l s).slot u m = if (u, m) ∈ l then (s.slot u m).withoutBeneficiary else s.slot u m := by
  induction l generalizing s with
  | nil => simp [dropEarmarks]
  | cons p rest ih =>
    rw [dropEarmarks, ih, State.dropEarmark_slot]
    by_cases at_p : p = (u, m)
    · simp [at_p]
    · simp [at_p, Ne.symm at_p]

theorem dropEarmarks_emergency (l : List Place) (h : s.EarmarksPaired) :
    (dropEarmarks l s).emergency = s.emergency.map (fun e => e.withoutEarmarkOn (fun q => decide (q ∈ l))) := by
  induction l generalizing s with
  | nil =>
    refine (List.map_id' _).symm.trans (List.map_congr_left fun e _ => ?_)
    exact (Waiting.withoutEarmarkOn_eq_self (by simp)).symm
  | cons p rest ih =>
    rw [dropEarmarks, ih (h.dropEarmark p), State.dropEarmark_emergency h, List.map_map]
    refine List.map_congr_left fun e _ => ?_
    simp [Waiting.withoutEarmarkOn_twice]

theorem dropEarmarks_frame (l : List Place) (s : State) :
    dropEarmarks l s = { s with slots := (dropEarmarks l s).slots, emergency := (dropEarmarks l s).emergency } := by
  induction l generalizing s with
  | nil => rfl
  | cons p rest ih =>
    rw [dropEarmarks, ih, s.dropEarmark_frame p.1 p.2]

/-! ## The earmarks above a capacity dropped (R14, R16) -/

theorem State.mem_cutEarmarks (s : State) (t : SectorId) (capacity : Nat) (p : Place) :
    p ∈ s.cutEarmarks t capacity ↔ (p.1 = t ∧ capacity ≤ p.2.val) ∧ (s.slot p.1 p.2).beneficiary?.isSome := by
  rw [State.cutEarmarks, List.mem_filter, mem_placesOf, Bool.and_eq_true, decide_eq_true_eq, Slot.earmarked_eq, and_assoc]
  exact and_congr_right fun at_t => by rw [at_t]

theorem State.cutEarmarks_isEmpty (s : State) (t : SectorId) (capacity : Nat) :
    (s.cutEarmarks t capacity).isEmpty = true ↔ ∀ n : SlotId, capacity ≤ n.val → (s.slot t n).earmarked = false := by
  simp [State.cutEarmarks, placesOf, mem_allSlots]

theorem State.cutEarmarks_isEmpty_eq_false (s : State) (t : SectorId) (capacity : Nat) :
    (s.cutEarmarks t capacity).isEmpty = false ↔ ∃ n : SlotId, capacity ≤ n.val ∧ (s.slot t n).earmarked = true := by
  rw [← Bool.not_eq_true, State.cutEarmarks_isEmpty]
  simp

/-- The earmarks above a capacity depend on the beneficiaries of the slots alone. -/
theorem State.cutEarmarks_congr {s u : State} {t : SectorId} (h : ∀ n, (u.slot t n).beneficiary? = (s.slot t n).beneficiary?)
    (capacity : Nat) : u.cutEarmarks t capacity = s.cutEarmarks t capacity := by
  simp only [State.cutEarmarks, Slot.earmarked_eq, h]

theorem dropEarmarks_cutEarmarks_slot (s : State) (t : SectorId) (capacity : Nat) (u : SectorId) (n : SlotId) :
    (dropEarmarks (s.cutEarmarks t capacity) s).slot u n =
      if u = t ∧ capacity ≤ n.val then (s.slot u n).withoutBeneficiary else s.slot u n := by
  simp only [dropEarmarks_slot, State.mem_cutEarmarks]
  by_cases marked : (s.slot u n).beneficiary?.isSome
  · simp [marked]
  · simp [Slot.withoutBeneficiary_eq_self (Option.not_isSome_iff_eq_none.mp marked)]

theorem dropEarmarks_cutEarmarks_emergency (h : s.EarmarksPaired) (t : SectorId) (capacity : Nat) :
    (dropEarmarks (s.cutEarmarks t capacity) s).emergency =
      s.emergency.map (fun e => e.withoutEarmarkOn (fun p => decide (p.1 = t ∧ capacity ≤ p.2.val))) := by
  rw [dropEarmarks_emergency _ h]
  refine List.map_congr_left fun e he => Waiting.withoutEarmarkOn_congr fun p hp => ?_
  simp [State.mem_cutEarmarks, (h e he p).mp hp]

end Sys2Proof.Machine
end

section
/-! SUPPORT. A change of capacity over the slots of a sector (R13, R14). -/

namespace Sys2Proof.Machine

theorem resizedSlot_twice (raised cut : Bool) (capacity : Nat) (n : SlotId) (x : Slot) :
    resizedSlot raised cut capacity n (resizedSlot raised cut capacity n x) = resizedSlot raised cut capacity n x := by
  unfold resizedSlot
  split_ifs <;> simp_all

/-- A change of capacity reaches slots without a call alone. -/
theorem resizedSlot_of_call {x : Slot} {c : Call} (h : x.call? = some c) (raised cut : Bool) (capacity : Nat) (n : SlotId) :
    resizedSlot raised cut capacity n x = x := by
  have ne_closed : x ≠ .closed := by rintro rfl; cases h
  have ne_free : x ≠ .free := by rintro rfl; cases h
  simp [resizedSlot, ne_closed, ne_free]

@[simp] theorem resizedSlot_beneficiary? (raised cut : Bool) (capacity : Nat) (n : SlotId) (x : Slot) :
    (resizedSlot raised cut capacity n x).beneficiary? = x.beneficiary? := by
  unfold resizedSlot
  split_ifs <;> simp_all [Slot.beneficiary?]

theorem resizeSlots_slot (raised cut : Bool) (capacity : Nat) (t : SectorId) (l : List SlotId) (s : State) (u : SectorId)
    (m : SlotId) :
    (resizeSlots raised cut capacity t l s).slot u m =
      if u = t ∧ m ∈ l then resizedSlot raised cut capacity m (s.slot u m) else s.slot u m := by
  induction l generalizing s with
  | nil => simp [resizeSlots]
  | cons n rest ih =>
    rw [resizeSlots, ih, State.slot_setSlot]
    by_cases at_n : t = u ∧ n = m
    · obtain ⟨rfl, rfl⟩ := at_n
      simp [resizedSlot_twice]
    · have elsewhere : u = t ∧ m ∈ n :: rest ↔ u = t ∧ m ∈ rest := by
        rw [List.mem_cons]
        grind
      simp only [at_n, if_false, elsewhere]

/-- A change of capacity writes slots alone. -/
theorem resizeSlots_frame (raised cut : Bool) (capacity : Nat) (t : SectorId) (l : List SlotId) (s : State) :
    resizeSlots raised cut capacity t l s = { s with slots := (resizeSlots raised cut capacity t l s).slots } := by
  induction l generalizing s with
  | nil => rfl
  | cons n rest ih => rw [resizeSlots, ih, State.setSlot]

theorem resizeSlots_allSlots (raised cut : Bool) (capacity : Nat) (t : SectorId) (s : State) (u : SectorId) (m : SlotId) :
    (resizeSlots raised cut capacity t allSlots s).slot u m =
      if u = t then resizedSlot raised cut capacity m (s.slot u m) else s.slot u m := by
  simp [resizeSlots_slot, mem_allSlots]

end Sys2Proof.Machine
end

section
/-! PROOFS. SECTOR-RESUME, SECTOR-DISABLE and SECTOR-DRAIN (R16 to R19). -/

namespace Sys2Proof.Machine

/-- The sector check refuses field 1 above 15 (R9). -/
theorem sectorFault_eq (o : Octet) : sectorFault o = if 15 < o.toNat then some 1 else none := by
  by_cases h : 15 < o.toNat
  · simp [sectorFault, fieldFault, h]
  · simp [sectorFault, fieldFault, h, Nat.not_lt.mp h]

theorem State.acceptSector_eq {s : State} {t : SectorId} {x : SectorState} (h : (s.sector t).state = x) (k : RequestKind) :
    s.acceptSector k t = s.pushReply (.sectorAccepted k t x) := by
  rw [State.acceptSector, h]

/-! ## SECTOR-RESUME -/

theorem State.resume_sector (s : State) (t : SectorId) : (s.resume t).sector t = { s.sector t with state := .opened } := by
  rw [State.resume, State.sector_congr (serveWalk_sectors _ _), State.sector_setSector_same]

/-- Settles O30: by the state of the sector; a service walk leaves the sector OPEN. -/
theorem sectorResume : Obligations.SectorResume := by
  intro s o takes t r
  have resumed : (s.afterTaking.resume t).acceptSector .sectorResume t =
      (s.afterTaking.resume t).pushReply (.sectorAccepted .sectorResume t .opened) :=
    State.acceptSector_eq (by rw [State.resume_sector]) _
  rw [exec_sectorResume_takes takes]
  simp only [decideBody, decideSectorResume, sectorFault_eq]
  congr 1
  by_cases range : 15 < o.toNat
  · simp only [range, if_true]
    rfl
  · simp only [range, if_false]
    have same : (s.afterTaking.sector (toSector o)).state = r.state := rfl
    rw [same]
    cases state : r.state with
    | disabled => rfl
    | opened => exact State.acceptSector_eq (same.trans state) _
    | draining => exact resumed
    | drained => exact resumed

/-! ## SECTOR-DISABLE -/

theorem State.disable_frame (s : State) (t : SectorId) :
    s.disable t = { s with sectors := s.sectors.set t { s.sector t with state := .disabled }, slots := (s.disable t).slots } := by
  rw [State.disable, resizeSlots_frame]
  rfl

/-- Disabling closes every slot of a sector without calls, and no other slot (R19). -/
theorem State.disable_slot {s : State} {t : SectorId} (empty : s.occupancy t = 0) (u : SectorId) (n : SlotId) :
    (s.disable t).slot u n = if u = t then .closed else s.slot u n := by
  rw [State.disable, resizeSlots_allSlots, State.slot_setSector]
  refine if_ctx_congr .rfl ?_ (fun _ => rfl)
  rintro rfl
  have no_call := State.call?_of_occupancy_zero empty n
  cases x : s.slot u n <;> simp_all [resizedSlot, Slot.call?]

theorem State.disable_sector (s : State) (t : SectorId) : (s.disable t).sector t = { s.sector t with state := .disabled } := by
  rw [State.disable_frame]
  simp [State.sector]

theorem State.namedByAny_iff (s : State) (t : SectorId) :
    s.namedByAny t = true ↔ ∃ e ∈ s.emergency ++ s.priority ++ s.general, e.sector = t := by
  simp [State.namedByAny, State.named, State.waiting, or_and_right, exists_or, or_assoc]

/-- Settles O31: by the state of the sector; a sector that is disabled has no calls, so each of its slots becomes CLOSED. -/
theorem sectorDisable : Obligations.SectorDisable := by
  intro s o takes lawful t r busy rejected accepted
  have answer := exec_sectorDisable_takes takes
  simp only [decideBody, decideSectorDisable, sectorFault_eq] at answer
  have state_eq : (s.afterTaking.sector (toSector o)).state = r.state := rfl
  have busy_iff : ¬(s.afterTaking.occupancy (toSector o) = 0 ∧ ¬s.afterTaking.namedByAny (toSector o)) ↔ busy := by
    rw [State.namedByAny_iff, not_and_or, not_not]
    exact or_congr Nat.pos_iff_ne_zero.symm .rfl
  refine ⟨fun range => ?_, fun range state => ?_, fun range state used => ?_, fun range state => ?_, fun range free => ?_⟩
  · simp only [range, if_true] at answer
    exact answer
  · simp only [Nat.not_lt.mpr range, if_false, state_eq, state] at answer
    exact answer
  · simp only [Nat.not_lt.mpr range, if_false, state_eq, state, busy_iff.mpr used] at answer
    exact answer
  · rw [State.acceptSector_eq (state_eq.trans state)] at answer
    simpa only [Nat.not_lt.mpr range, if_false, state_eq, state] using answer
  · have empty : s.occupancy t = 0 := by
      obtain drained | ⟨-, unused⟩ := free
      · exact lawful.empty t (.inr drained)
      · exact Nat.eq_zero_of_not_pos fun h => unused (.inl h)
    refine ⟨s.afterTaking.disable t, s.afterTaking.disable_frame t, State.disable_slot empty, ?_⟩
    rw [State.acceptSector_eq (s := s.afterTaking.disable _) (x := .disabled) (by rw [State.disable_sector])] at answer
    obtain drained | ⟨opened, unused⟩ := free
    · simpa only [Nat.not_lt.mpr range, if_false, state_eq, drained] using answer
    · simpa only [Nat.not_lt.mpr range, if_false, state_eq, opened, if_pos (not_not.mp (mt busy_iff.mp unused))] using answer

/-! ## SECTOR-DRAIN -/

theorem State.earmarkedPlaces_eq_cutEarmarks (s : State) (t : SectorId) : s.earmarkedPlaces t = s.cutEarmarks t 0 := by
  simp [State.earmarkedPlaces, State.cutEarmarks]

/-- The state of a SECTOR-DRAIN before its DRAINED test: the sector DRAINING, the earmarks of its slots dropped (R16). -/
def State.draining (s : State) (t : SectorId) : State :=
  dropEarmarks (s.cutEarmarks t 0) (s.setSector t { s.sector t with state := .draining })

theorem State.drain_eq (s : State) (t : SectorId) :
    s.drain t = ((s.draining t).drainedTest t).passIf (!(s.cutEarmarks t 0).isEmpty) := by
  rw [State.drain, State.earmarkedPlaces_eq_cutEarmarks]
  rfl

theorem State.draining_slot (s : State) (t u : SectorId) (n : SlotId) :
    (s.draining t).slot u n = if u = t then (s.slot u n).withoutBeneficiary else s.slot u n :=
  (dropEarmarks_cutEarmarks_slot (s.setSector t _) t 0 u n).trans (by simp)

theorem State.draining_emergency {s : State} (h : s.EarmarksPaired) (t : SectorId) :
    (s.draining t).emergency = s.emergency.map (fun e => e.withoutEarmarkOn (fun p => decide (p.1 = t))) :=
  (dropEarmarks_cutEarmarks_emergency (s := s.setSector t _) h t 0).trans (by simp)

theorem State.draining_occupancy (s : State) (t : SectorId) : (s.draining t).occupancy t = s.occupancy t :=
  State.occupancy_congr fun n => by simp [State.draining_slot]

theorem State.draining_frame (s : State) (t : SectorId) :
    s.draining t = { s with sectors := s.sectors.set t { s.sector t with state := .draining }, slots := (s.draining t).slots,
                            emergency := (s.draining t).emergency } := by
  rw [State.draining, dropEarmarks_frame]
  rfl

theorem State.draining_sector (s : State) (t : SectorId) : (s.draining t).sector t = { s.sector t with state := .draining } := by
  rw [State.draining_frame]
  simp [State.sector]

/-- The DRAINED test writes the sector record and the link port alone. -/
theorem State.drainedTest_slots (s : State) (t : SectorId) : (s.drainedTest t).slots = s.slots := by
  unfold State.drainedTest
  split <;> simp

theorem State.drainedTest_emergency (s : State) (t : SectorId) : (s.drainedTest t).emergency = s.emergency := by
  unfold State.drainedTest
  split <;> simp

/-- What the DRAINED test of a SECTOR-DRAIN leaves (R16, R17). -/
theorem State.drainedTest_draining (s : State) (t : SectorId) :
    (s.draining t).drainedTest t =
      { s with link := (if s.occupancy t = 0 then s.offerStatus (.drained t) else s).link,
               sectors := s.sectors.set t { s.sector t with state := if s.occupancy t = 0 then .drained else .draining },
               slots := ((s.draining t).drainedTest t).slots, emergency := ((s.draining t).drainedTest t).emergency } := by
  rw [State.drainedTest_slots, State.drainedTest_emergency, State.drainedTest, State.draining_occupancy, State.draining_sector]
  by_cases empty : s.occupancy t = 0
  · have link : (s.draining t).link = s.link := by rw [State.draining_frame]
    simp only [empty, and_self, if_true]
    rw [State.offerStatus_of_link_eq (s := s) (by exact link)]
    conv_lhs => rw [State.draining_frame]
    simp [State.setSector]
  · simp only [empty, and_false, if_false]
    exact s.draining_frame t

theorem State.drain_sector (s : State) (t : SectorId) :
    (s.drain t).sector t = { s.sector t with state := if s.occupancy t = 0 then .drained else .draining } := by
  rw [State.drain_eq, State.sector_congr (State.passIf_sectors _ _), State.drainedTest_draining]
  simp [State.sector]

/-- Settles O29: the state after the DRAINED test is the next state, before the pass that a dropped earmark asks for. -/
theorem sectorDrain : Obligations.SectorDrain := by
  intro s o takes paired t r empty final rejected
  have answer := exec_sectorDrain_takes takes
  simp only [decideBody, decideSectorDrain, sectorFault_eq] at answer
  have state_eq : (s.afterTaking.sector (toSector o)).state = r.state := rfl
  refine ⟨fun range => ?_, fun range closed => ?_, fun range opened => ?_⟩
  · simp only [range, if_true] at answer
    exact answer
  · simp only [Nat.not_lt.mpr range, if_false, state_eq] at answer
    cases state : r.state with
    | opened => exact absurd state closed
    | disabled | draining | drained =>
      simp only [state] at answer
      exact answer
  · simp only [Nat.not_lt.mpr range, if_false, state_eq, opened] at answer
    rw [State.acceptSector_eq (s := s.afterTaking.drain _) (x := final) (by rw [State.drain_sector]; rfl), State.drain_eq]
      at answer
    refine ⟨(s.afterTaking.draining t).drainedTest t, s.afterTaking.drainedTest_draining t, fun u n => ?_, ?_, fun marked => ?_,
      fun unmarked => ?_⟩
    · rw [State.slot_congr (State.drainedTest_slots _ _), State.draining_slot]
      have slot_eq : s.afterTaking.slot u n = s.slot u n := rfl
      rw [slot_eq]
      cases s.slot u n <;> simp only [Slot.withoutBeneficiary, ite_self]
    · rw [State.drainedTest_emergency]
      exact State.draining_emergency (s := s.afterTaking) paired.earmarks t
    · have dropped : (s.afterTaking.cutEarmarks t 0).isEmpty = false := 
        (s.afterTaking.cutEarmarks_isEmpty_eq_false t 0).mpr (marked.imp fun n h => ⟨n.val.zero_le, h⟩)
      rwa [dropped] at answer
    · have kept : (s.afterTaking.cutEarmarks t 0).isEmpty = true := 
        (s.afterTaking.cutEarmarks_isEmpty t 0).mpr fun n _ => unmarked n
      rwa [kept] at answer

end Sys2Proof.Machine
end

section
/-! PROOFS. SECTOR-SET (R10 to R15). -/

namespace Sys2Proof.Machine

variable {s : State} {f : SectorSetFields}

/-! ## The checks of an accepted SECTOR-SET (R9, R10) -/

theorem fieldFault_eq_none_iff (checks : List (Nat × Bool)) : fieldFault checks = none ↔ ∀ c ∈ checks, c.2 = true := by
  simp [fieldFault]

theorem forall_mem_listedNeighbours (f : SectorSetFields) (P : Octet → Prop) :
    (∀ o ∈ listedNeighbours f, P o) ↔
      (1 ≤ f.neighbourCount.toNat → P f.neighbour1) ∧ (2 ≤ f.neighbourCount.toNat → P f.neighbour2) ∧
        (3 ≤ f.neighbourCount.toNat → P f.neighbour3) := by
  unfold listedNeighbours
  generalize f.neighbourCount.toNat = k
  match k with
  | 0 | 1 | 2 | k + 3 => simp

theorem nodup_listedNeighbours (f : SectorSetFields) :
    (listedNeighbours f).Nodup ↔
      (2 ≤ f.neighbourCount.toNat → f.neighbour2 ≠ f.neighbour1) ∧
        (3 ≤ f.neighbourCount.toNat → f.neighbour3 ≠ f.neighbour1 ∧ f.neighbour3 ≠ f.neighbour2) := by
  unfold listedNeighbours
  generalize f.neighbourCount.toNat = k
  match k with
  | 0 | 1 => simp
  | 2 => simp [eq_comm]
  | k + 3 => simp [eq_comm, and_assoc]

/-- A check of a neighbour octet that the count may leave out. -/
theorem lt_or_of_imp_le {k n : Nat} {P : Prop} (h : n ≤ k → P) : k < n ∨ P := (Nat.lt_or_ge k n).imp_right h

theorem sectorSetRange_of_accepted (h : s.AcceptsSectorSet f) : fieldFault (sectorSetRange f) = none := by
  have priority := h.guards.1.trans h.guards.2
  obtain ⟨first, second, third⟩ := (forall_mem_listedNeighbours f _).mp h.neighbours
  simp only [fieldFault_eq_none_iff, sectorSetRange, List.forall_mem_cons, decide_eq_true_eq]
  exact ⟨h.sector, h.capacity, h.guards.2, priority, h.neighbourCount, lt_or_of_imp_le fun k => (first k).1,
    lt_or_of_imp_le fun k => (second k).1, lt_or_of_imp_le fun k => (third k).1, h.weight, h.depth, by simp⟩

theorem sectorSetConsistency_of_accepted (h : s.AcceptsSectorSet f) : fieldFault (sectorSetConsistency f) = none := by
  obtain ⟨first, second, third⟩ := (forall_mem_listedNeighbours f _).mp h.neighbours
  obtain ⟨second', third'⟩ := (nodup_listedNeighbours f).mp h.neighboursDistinct
  simp only [fieldFault_eq_none_iff, sectorSetConsistency, List.forall_mem_cons, decide_eq_true_eq]
  exact ⟨h.guards.1, lt_or_of_imp_le fun k => (first k).2, lt_or_of_imp_le fun k => ⟨(second k).2, second' k⟩,
    lt_or_of_imp_le fun k => ⟨(third k).2, third' k⟩, by simp⟩

theorem guardsLocked_of_accepted (h : s.AcceptsSectorSet f) : s.guardsLocked (toSector f.sector) f = false := by
  cases lock : s.guardLock with
  | false => simp [State.guardsLocked, lock]
  | true => simp [State.guardsLocked, h.lock lock]

theorem decideSectorSet_of_accepted (h : s.AcceptsSectorSet f) :
    decideSectorSet f s = (s.applySectorSet (toSector f.sector) f).acceptSector .sectorSet (toSector f.sector) := by
  simp [decideSectorSet, sectorSetRange_of_accepted h, sectorSetConsistency_of_accepted h, guardsLocked_of_accepted h]

/-! ## The fields written, and the sector enabled (R11, R12) -/

/-- The sector record that a SECTOR-SET writes (R11, R12). -/
def Sector.rewritten (r : Sector) (f : SectorSetFields) (w : Option Surge) : Sector :=
  if r.state = .disabled then (r.written f).enabledWith w else r.written f

/-- The state of a SECTOR-SET before its change of capacity (R11, R12). -/
def State.rewritten (s : State) (t : SectorId) (f : SectorSetFields) : State :=
  if (s.sector t).state = .disabled then (s.setSector t ((s.sector t).written f)).enableSector t
  else s.setSector t ((s.sector t).written f)

/-- Enabling a sector just written: its record, and a LEVEL report offered to the link as it stood (R12). -/
theorem State.enableSector_setSector (s : State) (t : SectorId) (r : Sector) :
    (s.setSector t r).enableSector t =
      { s with link := (s.offerStatus (.level t (floored s.governor.surge 0)
                (s.governor.activeTable.get (floored s.governor.surge 0)).barPct
                (s.governor.activeTable.get (floored s.governor.surge 0)).barTime)).link,
               sectors := s.sectors.set t (r.enabledWith s.governor.surge) } := by
  simp only [State.enableSector, State.levelReport, State.sector_setSector_same]
  rw [State.offerStatus_of_link_eq (s := s) (by rfl)]
  simp [State.setSector, Sector.enabledWith, rowOf]

theorem State.rewritten_frame (s : State) (t : SectorId) (f : SectorSetFields) :
    s.rewritten t f = { s with link := (s.rewritten t f).link,
                               sectors := s.sectors.set t ((s.sector t).rewritten f s.governor.surge) } := by
  unfold State.rewritten Sector.rewritten
  split
  · rw [State.enableSector_setSector]
  · rfl

theorem State.rewritten_link (s : State) (t : SectorId) (f : SectorSetFields) :
    (s.rewritten t f).link =
      if (s.sector t).state = .disabled then
        (s.offerStatus (.level t (floored s.governor.surge 0) (s.governor.activeTable.get (floored s.governor.surge 0)).barPct
          (s.governor.activeTable.get (floored s.governor.surge 0)).barTime)).link
      else s.link := by
  unfold State.rewritten
  split
  · rw [State.enableSector_setSector]
  · rfl

/-- An open surge window's floor is at or above level 0 (R12). -/
theorem floored_some_zero (w : Surge) : floored (some w) 0 = w.floor := by
  simp only [floored]
  split
  · rfl
  · rename_i low
    exact (Fin.ext (by simpa using low)).symm

/-! ## The change of capacity (R13, R14) -/

/-- The state of a SECTOR-SET with the slots opened and closed by the new capacity (R13, R14). -/
def State.resized (s : State) (t : SectorId) (f : SectorSetFields) : State :=
  resizeSlots (decide ((s.sector t).state = .disabled) || decide ((s.sector t).capacity < f.capacity.toNat))
    (decide (f.capacity.toNat < (s.sector t).capacity)) f.capacity.toNat t allSlots (s.rewritten t f)

/-- The state of a SECTOR-SET before its service walk: fields, enabling, capacity, earmarks (R11 to R14). -/
def State.refitted (s : State) (t : SectorId) (f : SectorSetFields) : State :=
  dropEarmarks (s.cutEarmarks t f.capacity.toNat) (s.resized t f)

/-- Where a slot without a call is FREE exactly when it is usable (R6), the new capacity alone says what it becomes. -/
theorem resizedSlot_of_lawful (lawful : s.SlotsLawful) (t : SectorId) (n : SlotId) (c : Nat) :
    resizedSlot (decide ((s.sector t).state = .disabled) || decide ((s.sector t).capacity < c))
        (decide (c < (s.sector t).capacity)) c n (s.slot t n) =
      if (s.slot t n).call? = none then if n.val < c then .free else .closed else s.slot t n := by
  have usable := lawful.free t n
  cases x : s.slot t n with
  | closed =>
    simp only [x, Slot.call?, reduceCtorEq, false_iff, not_and, not_not, true_imp_iff] at usable
    by_cases below : n.val < c
    · have raised : (s.sector t).state = .disabled ∨ (s.sector t).capacity < c := by
        by_contra! kept
        exact kept.1 (usable (below.trans_le kept.2))
      simpa [resizedSlot, Slot.call?, below, or_iff_not_imp_left] using raised
    · simp [resizedSlot, Slot.call?, below]
  | free =>
    simp only [x, Slot.call?, true_iff, true_imp_iff] at usable
    by_cases below : n.val < c
    · simp [resizedSlot, Slot.call?, below]
    · have cut : c < (s.sector t).capacity := (Nat.not_lt.mp below).trans_lt usable.1
      simp [resizedSlot, Slot.call?, below, cut]
  | active call | vacating call v | stuck call => exact resizedSlot_of_call rfl _ _ _ _

theorem State.rewritten_slot (s : State) (t : SectorId) (f : SectorSetFields) (u : SectorId) (n : SlotId) :
    (s.rewritten t f).slot u n = s.slot u n :=
  State.slot_congr (by rw [State.rewritten_frame]) u n

theorem State.resized_slot (lawful : s.SlotsLawful) (t : SectorId) (f : SectorSetFields) (u : SectorId) (n : SlotId) :
    (s.resized t f).slot u n =
      if u = t ∧ (s.slot u n).call? = none then if n.val < f.capacity.toNat then .free else .closed else s.slot u n := by
  rw [State.resized, resizeSlots_allSlots, State.rewritten_slot]
  by_cases at_t : u = t
  · subst at_t
    simp only [if_true, true_and, resizedSlot_of_lawful lawful]
  · simp only [at_t, if_false, false_and]

/-- A change of capacity keeps the beneficiaries of the slots. -/
theorem State.resized_beneficiary? (s : State) (t : SectorId) (f : SectorSetFields) (u : SectorId) (n : SlotId) :
    ((s.resized t f).slot u n).beneficiary? = (s.slot u n).beneficiary? := by
  rw [State.resized, resizeSlots_allSlots, State.rewritten_slot]
  split <;> simp

theorem State.resized_emergency (s : State) (t : SectorId) (f : SectorSetFields) :
    (s.resized t f).emergency = s.emergency := by
  rw [State.resized, resizeSlots_frame, State.rewritten_frame]

theorem State.resized_paired (paired : s.EarmarksPaired) (t : SectorId) (f : SectorSetFields) :
    (s.resized t f).EarmarksPaired := by
  intro e he p
  rw [State.resized_emergency] at he
  rw [State.resized_beneficiary?, paired e he p]

/-- The earmarks that a cut drops are those above the new capacity, before and after the slots are opened and closed. -/
theorem State.refitted_eq (s : State) (t : SectorId) (f : SectorSetFields) :
    s.refitted t f = dropEarmarks ((s.resized t f).cutEarmarks t f.capacity.toNat) (s.resized t f) := by
  rw [State.refitted, State.cutEarmarks_congr (s.resized_beneficiary? t f t)]

theorem State.refitted_slot (lawful : s.SlotsLawful) (t : SectorId) (f : SectorSetFields) (u : SectorId) (n : SlotId) :
    (s.refitted t f).slot u n =
      if u ≠ t then s.slot u n
      else match s.slot t n with
        | .closed => if n.val < f.capacity.toNat then .free else .closed
        | .free => if n.val < f.capacity.toNat then .free else .closed
        | .active call => .active call
        | .vacating call v =>
          if n.val < f.capacity.toNat then .vacating call v else .vacating call { v with beneficiary := none }
        | .stuck call => .stuck call := by
  rw [State.refitted_eq, dropEarmarks_cutEarmarks_slot, State.resized_slot lawful]
  by_cases at_t : u = t
  · subst at_t
    by_cases below : n.val < f.capacity.toNat
    · simp only [ne_eq, not_true_eq_false, true_and, Nat.not_le.mpr below, below, if_false, if_true]
      cases s.slot u n <;> rfl
    · simp only [ne_eq, not_true_eq_false, true_and, Nat.not_lt.mp below, below, if_false, if_true]
      cases s.slot u n <;> rfl
  · simp [at_t]

theorem State.refitted_emergency (paired : s.EarmarksPaired) (t : SectorId) (f : SectorSetFields) :
    (s.refitted t f).emergency =
      s.emergency.map (fun e => e.withoutEarmarkOn (fun p => decide (p.1 = t ∧ f.capacity.toNat ≤ p.2.val))) := by
  rw [State.refitted_eq, dropEarmarks_cutEarmarks_emergency (State.resized_paired paired t f), State.resized_emergency]

theorem State.refitted_link (s : State) (t : SectorId) (f : SectorSetFields) :
    (s.refitted t f).link = (s.rewritten t f).link := by
  rw [State.refitted, dropEarmarks_frame, State.resized, resizeSlots_frame]

theorem State.refitted_frame (s : State) (t : SectorId) (f : SectorSetFields) :
    s.refitted t f = { s with link := (s.refitted t f).link,
                              sectors := s.sectors.set t ((s.sector t).rewritten f s.governor.surge),
                              slots := (s.refitted t f).slots, emergency := (s.refitted t f).emergency } := by
  rw [State.refitted_link, State.refitted, dropEarmarks_frame, State.resized, resizeSlots_frame, State.rewritten_frame]

theorem State.refitted_sector (s : State) (t : SectorId) (f : SectorSetFields) :
    (s.refitted t f).sector t = (s.sector t).rewritten f s.governor.surge := by
  rw [State.refitted_frame]
  simp [State.sector]

/-- No earmark stands above a capacity that is not cut (R99). -/
theorem State.cutEarmarks_of_not_cut (lawful : s.SlotsLawful) {t : SectorId} {c : Nat} (h : (s.sector t).capacity ≤ c) :
    s.cutEarmarks t c = [] := by
  rw [← List.isEmpty_iff, State.cutEarmarks_isEmpty]
  intro n above
  by_contra marked
  obtain ⟨-, below⟩ := lawful.earmarked t n (by simpa using marked)
  omega

/-! ## The service walk and the pass (R14, R15) -/

theorem Sector.rewritten_neighbours (r : Sector) (f : SectorSetFields) (w : Option Surge) :
    (r.rewritten f w).neighbours = (listedNeighbours f).map toSector := by
  unfold Sector.rewritten
  split <;> rfl

theorem Sector.rewritten_state (r : Sector) (f : SectorSetFields) (w : Option Surge) :
    (r.rewritten f w).state = if r.state = .disabled then .opened else r.state := by
  unfold Sector.rewritten
  split <;> rfl

/-- An accepted SECTOR-SET is its fields and capacity, then the service walk, then the pass that a dropped earmark asks for. -/
theorem State.applySectorSet_eq (lawful : s.SlotsLawful) (t : SectorId) (f : SectorSetFields) :
    s.applySectorSet t f =
      (serveWalk (placesOf t ++ (((listedNeighbours f).map toSector).filter
          (fun u => decide (u ∉ (s.sector t).neighbours))).flatMap placesOf) (s.refitted t f)).passIf
        (!(s.cutEarmarks t f.capacity.toNat).isEmpty) := by
  have dropped : (if decide (f.capacity.toNat < (s.sector t).capacity) then
      (s.rewritten t f).cutEarmarks t f.capacity.toNat else []) = s.cutEarmarks t f.capacity.toNat := by
    split
    · exact State.cutEarmarks_congr (fun n => by rw [State.rewritten_slot]) _
    · rename_i kept
      exact (State.cutEarmarks_of_not_cut lawful (by simpa using kept)).symm
  have enabled : (if decide ((s.sector t).state = .disabled) then (s.setSector t ((s.sector t).written f)).enableSector t
      else s.setSector t ((s.sector t).written f)) = s.rewritten t f := by
    simp [State.rewritten]
  have walked := s.refitted_sector t f
  simp only [State.refitted, State.resized] at walked
  simp only [State.applySectorSet, enabled, dropped, walked, Sector.rewritten_neighbours, newNeighbours, List.contains_eq_mem,
    decide_not]
  rfl

theorem State.applySectorSet_state (lawful : s.SlotsLawful) (t : SectorId) (f : SectorSetFields) :
    ((s.applySectorSet t f).sector t).state = if (s.sector t).state = .disabled then .opened else (s.sector t).state := by
  rw [State.applySectorSet_eq lawful, State.sector_congr (State.passIf_sectors _ _), State.sector_congr (serveWalk_sectors _ _),
    State.refitted_sector, Sector.rewritten_state]

end Sys2Proof.Machine
end

section
/-! PROOFS. SECTOR-SET: the statement (R11 to R15). -/

namespace Sys2Proof.Machine

/-- Settles O28: the state before the service walk (`State.refitted`) is the one that the statement asks for; the sector is
OPEN after the walk and the pass where it was DISABLED. -/
theorem sectorSetTakesEffect : Obligations.SectorSetTakesEffect := by
  intro s f takes accepts paired lawful t r c d new level row common walk
  have accepts' : s.afterTaking.AcceptsSectorSet f := ⟨accepts.sector, accepts.capacity, accepts.guards, accepts.neighbourCount,
    accepts.neighbours, accepts.neighboursDistinct, accepts.weight, accepts.depth, accepts.lock⟩
  have lawful' : s.afterTaking.SlotsLawful := ⟨lawful.free, lawful.empty, lawful.draining, lawful.earmarked⟩
  have answer := exec_sectorSet_takes takes
  simp only [decideBody, decideSectorSet_of_accepted accepts'] at answer
  rw [State.acceptSector_eq (State.applySectorSet_state lawful' _ _), State.applySectorSet_eq lawful'] at answer
  refine ⟨s.afterTaking.refitted t f, ?_, ?_, State.refitted_slot lawful' t f,
    State.refitted_emergency (s := s.afterTaking) paired.earmarks t f, fun marked => ?_, fun unmarked => ?_⟩
  · have level_eq : floored s.afterTaking.governor.surge 0 = level := by
      simp only [level, State.afterTaking_governor]
      cases s.governor.surge with
      | none => rfl
      | some w => exact floored_some_zero w
    rw [State.refitted_link, State.rewritten_link, State.refitted_sector, level_eq]
    by_cases disabled : r.state = .disabled
    · rw [if_pos disabled, if_pos (by exact disabled)]
      refine ⟨?_, rfl⟩
      rw [← level_eq]
      exact if_pos disabled
    · rw [if_neg disabled, if_neg (by exact disabled)]
      exact ⟨if_neg disabled, rfl⟩
  · rw [State.refitted_sector]
    exact s.afterTaking.refitted_frame t f
  · have dropped : (s.afterTaking.cutEarmarks t c).isEmpty = false :=
      (s.afterTaking.cutEarmarks_isEmpty_eq_false t c).mpr marked
    rwa [dropped] at answer
  · have kept : (s.afterTaking.cutEarmarks t c).isEmpty = true := (s.afterTaking.cutEarmarks_isEmpty t c).mpr unmarked
    rwa [kept] at answer

end Sys2Proof.Machine
end

section
/-! SUPPORT. The screening table and the classification of an ADMIT (R22 to R27, R37, R40): the key, the scan and its winner, the
entry as scans see it, and what an ADMIT that passes its checks is decided on. -/

namespace Sys2Proof.Machine

/-! ## The screening key (R22) -/

/-- Access class and cause flag in range leave every part of the key at its own positions. -/
theorem screenKey_toNat {f : AdmitFields} (accessClass : f.accessClass.toNat ≤ 15) (cause : f.cause.toNat ≤ 1) :
    (screenKey f).toNat = f.service.toNat * 32 + f.accessClass.toNat * 2 + f.cause.toNat := by
  have service := f.service.isLt
  rw [screenKey, BitVec.toNat_ofNat, Nat.mod_eq_of_lt (by omega)]

/-- A group of positions of a word, as a number. -/
theorem extractLsb'_eq_of_toNat {w start len : Nat} {x : BitVec w} {y : BitVec len}
    (h : x.toNat / 2 ^ start % 2 ^ len = y.toNat) : x.extractLsb' start len = y :=
  BitVec.eq_of_toNat_eq (by rw [BitVec.extractLsb'_toNat, Nat.shiftRight_eq_div_pow, h])

theorem screenKey_parts {f : AdmitFields} (accessClass : f.accessClass.toNat ≤ 15) (cause : f.cause.toNat ≤ 1) :
    (screenKey f).extractLsb' 5 16 = f.service ∧ (screenKey f).extractLsb' 1 4 = f.accessClass.extractLsb' 0 4 ∧
      (screenKey f).extractLsb' 0 1 = f.cause.extractLsb' 0 1 := by
  have key := screenKey_toNat accessClass cause
  have service := f.service.isLt
  refine ⟨extractLsb'_eq_of_toNat ?_, extractLsb'_eq_of_toNat ?_, extractLsb'_eq_of_toNat ?_⟩
  · omega
  · rw [BitVec.extractLsb'_toNat, Nat.shiftRight_zero]
    omega
  · rw [BitVec.extractLsb'_toNat, Nat.shiftRight_zero]
    omega

/-! ## The scan (R23, R24) -/

theorem matchesKey_iff (c : ScreenContent) (k : ScreenKey) :
    matchesKey c k = true ↔ ∀ n < 21, c.mask.getLsbD n = true → k.getLsbD n = c.matchValue.getLsbD n := by
  rw [matchesKey, decide_eq_true_eq]
  constructor
  · intro agree n _ masked
    have bit := congrArg (fun x => x.getLsbD n) agree
    simpa [BitVec.getLsbD_and, masked] using bit
  · intro agree
    refine BitVec.eq_of_getLsbD_eq fun n hn => ?_
    rw [BitVec.getLsbD_and, BitVec.getLsbD_and]
    cases masked : c.mask.getLsbD n with
    | false => simp
    | true => simp [agree n hn masked]

/-- The scan sees the held entry by its held copy and any other as stored (R24, R33). -/
theorem State.scanned_eq (s : State) (i : ScreenIndex) : s.scanned i = (s.heldCopy i).getD (s.screenEntry i).content := by
  unfold State.scanned State.heldCopy State.screenEntry
  cases s.screening.hold with
  | none => rfl
  | some h => by_cases held : h.index = i <;> simp [held]

/-- An entry wins a scan against a key only if it is enabled and matches. -/
def State.Fits (s : State) (k : ScreenKey) (i : ScreenIndex) : Prop :=
  (s.scanned i).enabled = true ∧ matchesKey (s.scanned i) k = true

/-- The scan goes through every index, the higher one first. -/
theorem scanOrder_split (i : ScreenIndex) :
    scanOrder = scanOrder.takeWhile (fun j => decide (i < j)) ++ i :: scanOrder.drop (32 - i.val) := by
  revert i
  decide

theorem State.scanWinner_of_highest {s : State} {k : ScreenKey} {i : ScreenIndex} (fits : s.Fits k i)
    (highest : ∀ j, i < j → ¬s.Fits k j) : s.scanWinner k = some i := by
  rw [State.scanWinner, List.find?_eq_some_iff_append]
  refine ⟨Bool.and_eq_true _ _ |>.mpr fits, _, _, scanOrder_split i, fun j above => ?_⟩
  rw [Bool.not_eq_true', ← Bool.not_eq_true, Bool.and_eq_true]
  exact highest j (by simpa using List.mem_takeWhile_imp above)

theorem State.scanWinner_of_none {s : State} {k : ScreenKey} (none_fits : ∀ i, ¬s.Fits k i) : s.scanWinner k = none := by
  rw [State.scanWinner, List.find?_eq_none]
  exact fun i _ => by
    rw [Bool.and_eq_true]
    exact none_fits i

/-! ## The classification and the state it leaves (R24 to R27) -/

theorem State.classOf_of_assign {s : State} {f : AdmitFields} {i : ScreenIndex} {cls : CallClass} {pre : Bool}
    (winner : s.scanWinner (screenKey f) = some i) (action : (s.scanned i).action = .assign cls pre) :
    s.classOf f = .attempt cls (flagFor cls pre) := by
  simp only [State.classOf, State.outcome, winner, action]

theorem State.classOf_of_bar {s : State} {f : AdmitFields} {i : ScreenIndex} {reason : Fin 16}
    (winner : s.scanWinner (screenKey f) = some i) (action : (s.scanned i).action = .bar reason) :
    s.classOf f = .bar i reason := by
  simp only [State.classOf, State.outcome, winner, action]

theorem State.classified_of_winner {s : State} {f : AdmitFields} {i : ScreenIndex} (h : s.scanWinner (screenKey f) = some i) :
    s.classified f = s.afterTaking.setScreenEntry i { s.screenEntry i with hits := bump (s.screenEntry i).hits } := by
  rw [State.classified, h]
  rfl

/-- Classification writes the screening table alone, beside the taking of the frame. -/
theorem State.classified_frame (s : State) (f : AdmitFields) :
    s.classified f = { s.afterTaking with screening := (s.classified f).screening } := by
  unfold State.classified
  cases s.scanWinner (screenKey f) <;> rfl

@[simp] theorem State.classified_sector (s : State) (f : AdmitFields) (t : SectorId) : (s.classified f).sector t = s.sector t := by
  rw [State.classified_frame]
  rfl

@[simp] theorem State.classified_retryHint (s : State) (f : AdmitFields) (k : CallerKey) (t : SectorId) :
    (s.classified f).retryHint k t = s.retryHint k t := by
  rw [State.classified_frame]
  rfl

/-! ## What an ADMIT that passes its checks is decided on (R37, R40) -/

theorem decideAdmit_of_passes {s : State} {f : AdmitFields} (passes : s.PassesChecks f) :
    decideAdmit f s = s.classifyAndDecide f := by
  obtain ⟨tag, sector, accessClass, cause, usable, new⟩ := passes
  have fault : fieldFault (admitChecks f) = none := by
    simp only [fieldFault_eq_none_iff, admitChecks, List.forall_mem_cons, decide_eq_true_eq, yesNo]
    exact ⟨tag, sector, accessClass, cause, by simp⟩
  rw [holds_iff] at new
  simp [decideAdmit, fault, usable, new]

variable {s : State} {f : AdmitFields}

theorem exec_admitCall_classified (takes : s.Takes (.admitCall (.ok f))) (passes : s.PassesChecks f) :
    exec (.admitCall (.ok f)) s = .next (s.afterTaking.classifyAndDecide f) := by
  have passes' : s.afterTaking.PassesChecks f := passes
  rw [exec_admitCall_takes takes, decideBody, decideAdmit_of_passes passes']

/-- A BAR winner refuses the ADMIT at once (R27). -/
theorem exec_admitCall_of_bar (takes : s.Takes (.admitCall (.ok f))) (passes : s.PassesChecks f) {i : ScreenIndex}
    {reason : Fin 16} (h : s.classOf f = .bar i reason) :
    exec (.admitCall (.ok f)) s = .next ((s.classified f).refuse f (.barred i reason)) := by
  have outcome : s.afterTaking.outcome f (s.afterTaking.scanWinner (screenKey f)) = .bar i reason := h
  rw [exec_admitCall_classified takes passes]
  simp only [State.classifyAndDecide, outcome]
  rfl

/-- Any other outcome gives the attempt a class, whose decision follows (R40). -/
theorem exec_admitCall_of_attempt (takes : s.Takes (.admitCall (.ok f))) (passes : s.PassesChecks f) {cls : CallClass}
    {pre : Bool} (h : s.classOf f = .attempt cls pre) :
    exec (.admitCall (.ok f)) s = .next ((s.classified f).decideClass f cls pre) := by
  have outcome : s.afterTaking.outcome f (s.afterTaking.scanWinner (screenKey f)) = .attempt cls pre := h
  rw [exec_admitCall_classified takes passes]
  simp only [State.classifyAndDecide, outcome]
  rfl

end Sys2Proof.Machine
end

section
/-! PROOFS. The scan of the screening table, and an ADMIT refused before the grant test (R22 to R27, R49, R52). -/

namespace Sys2Proof.Machine

/-- Settles O11: the scan goes through the indices from 31 down to 0, so its winner is the highest one that fits. -/
theorem scanOfTheScreeningTable : Obligations.ScanOfTheScreeningTable := by
  intro s f accessClass cause key version fits
  have version_eq : ∀ i, s.scanned i = version i := s.scanned_eq
  have fits_iff : ∀ i, s.Fits key i ↔ fits i := fun i => by
    rw [State.Fits, matchesKey_iff, version_eq]
  refine ⟨⟨screenKey_toNat accessClass cause, screenKey_parts accessClass cause⟩, fun i won highest => ?_, fun none_fits => ?_⟩
  · have winner : s.scanWinner key = some i :=
      State.scanWinner_of_highest ((fits_iff i).mpr won) fun j above => (fits_iff j).not.mpr (highest j above)
    refine ⟨?_, State.classified_of_winner winner⟩
    cases action : (version i).action with
    | assign cls pre =>
      rw [State.classOf_of_assign winner (version_eq i ▸ action)]
      simp [flagFor]
    | bar reason => exact State.classOf_of_bar winner (version_eq i ▸ action)
  · have no_winner : s.scanWinner key = none := State.scanWinner_of_none fun i => (fits_iff i).not.mpr (none_fits i)
    rw [State.classOf, State.classified, no_winner]
    exact ⟨rfl, rfl⟩

theorem Sector.leaving_iff (r : Sector) : r.leaving = true ↔ r.state = .draining ∨ r.state = .drained := decide_eq_true_iff

/-- Settles O12: a BAR winner refuses at once; for the rest, by the class of the attempt. -/
theorem admitRefusedBeforeTheGrantTest : Obligations.AdmitRefusedBeforeTheGrantTest := by
  intro s f takes passes t refused
  have refuse_eq : ∀ reason, (s.classified f).refuse f reason =
      ((s.classified f).recordRefusal f.key).pushReply (.refused f.tag reason (s.retryHint f.key t)) := fun reason => by
    rw [State.refuse, State.classified_retryHint]
  refine ⟨fun i reason bar => ?_, fun cls pre attempt not_emergency state => ?_, fun pre attempt opened spent => ?_⟩
  · exact (exec_admitCall_of_bar takes passes bar).trans (congrArg _ (refuse_eq _))
  · have leaving : ((s.classified f).sector t).leaving = true := by rwa [Sector.leaving_iff, State.classified_sector]
    refine (exec_admitCall_of_attempt takes passes attempt).trans (congrArg _ (Eq.trans ?_ (refuse_eq _)))
    cases cls with
    | emergency => exact absurd rfl not_emergency
    | priority => exact if_pos leaving
    | general => exact if_pos leaving
  · have staying : ¬((s.classified f).sector t).leaving = true := by
      rw [Sector.leaving_iff, State.classified_sector, opened]
      simp
    have no_token : ((s.classified f).sector t).tokens = 0 := by rwa [State.classified_sector]
    refine (exec_admitCall_of_attempt takes passes attempt).trans (congrArg _ (Eq.trans ?_ (refuse_eq _)))
    exact (if_neg staying).trans (if_pos no_token)

end Sys2Proof.Machine
end

section
/-! PROOFS. The screening edit requests SCREEN-SET and SCREEN-FREE (R29 to R31, R34). -/

namespace Sys2Proof.Machine

theorem ScreenAction.assignsEmergency_iff (a : ScreenAction) : a.assignsEmergency = true ↔ ∃ p, a = .assign .emergency p := by
  rcases a with ⟨cls, p⟩ | reason
  · cases cls <;> simp [ScreenAction.assignsEmergency]
  · simp [ScreenAction.assignsEmergency]

/-! ## SCREEN-FREE -/

/-- Settles O34: by the hold, and by whether closing it would weaken a locked emergency entry. -/
theorem screenFree : Obligations.ScreenFree := by
  intro s takes rejected
  have answer := exec_screenFree_takes takes
  simp only [decideBody, decideScreenFree, State.afterTaking_screening, State.afterTaking_guardLock,
    ScreenAction.assignsEmergency_iff] at answer
  refine ⟨fun no_hold => ?_, fun h hold => ⟨fun weakened => ?_, fun harmless => ?_⟩⟩
  · simp only [no_hold] at answer
    exact answer
  · simp only [hold] at answer
    exact answer.trans (congrArg _ (if_pos weakened))
  · simp only [hold] at answer
    exact answer.trans (congrArg _ (if_neg harmless))

/-! ## The range checks of SCREEN-SET (R29) -/

theorem fieldFault_cons {n : Nat} {ok : Bool} {bad : Prop} [Decidable bad] {rest : List (Nat × Bool)} {later : Option Nat}
    (check : ok = false ↔ bad) (h : fieldFault rest = later) :
    fieldFault ((n, ok) :: rest) = if bad then some n else later := by
  simp only [← check, ← h]
  cases ok <;> rfl

theorem CallClass.ofCode_eq_none_iff (o : Octet) : CallClass.ofCode o = none ↔ o.toNat = 0 ∨ 3 < o.toNat := by
  unfold CallClass.ofCode
  split_ifs with emergency priority general
  · simp [emergency]
  · simp [priority]
  · simp [general]
  · simp only [true_iff]
    bv_omega

theorem screenSetRange_fault (f : ScreenSetFields) :
    fieldFault (screenSetRange f) =
      if 31 < f.index.toNat then some 1
      else if 1 < f.enabled.toNat then some 2
      else if 2 ^ 21 ≤ f.matchValue.toNat then some 3
      else if 2 ^ 21 ≤ f.mask.toNat then some 4
      else if f.action ≠ 1 ∧ f.action ≠ 2 then some 5
      else if f.action = 1 ∧ (f.cls.toNat = 0 ∨ 3 < f.cls.toNat) then some 6
      else if f.action = 1 ∧ 1 < f.preemptible.toNat then some 7
      else if f.action = 2 ∧ (f.reason.toNat = 0 ∨ 15 < f.reason.toNat) then some 8
      else none := by
  have reason_range : ¬(1 ≤ f.reason.toNat ∧ f.reason.toNat ≤ 15) ↔ f.reason.toNat = 0 ∨ 15 < f.reason.toNat := by omega
  have class_range : ¬(CallClass.ofCode f.cls).isSome = true ↔ f.cls.toNat = 0 ∨ 3 < f.cls.toNat := by
    rw [Option.not_isSome_iff_eq_none, CallClass.ofCode_eq_none_iff]
  refine fieldFault_cons ?index (fieldFault_cons ?enabled (fieldFault_cons ?matchValue (fieldFault_cons ?mask
    (fieldFault_cons ?action (fieldFault_cons ?cls (fieldFault_cons ?preemptible (fieldFault_cons ?reason rfl)))))))
  case action => rw [decide_eq_false_iff_not, not_or]
  case cls => rw [decide_eq_false_iff_not, Classical.not_imp, class_range]
  case reason => rw [decide_eq_false_iff_not, Classical.not_imp, reason_range]
  case preemptible => rw [decide_eq_false_iff_not, Classical.not_imp, yesNo, decide_eq_true_iff, not_le]
  all_goals exact decide_eq_false_iff_not.trans (by simp only [not_le, not_lt])

/-- A chain of range checks answers as its first fault does, and else as what follows it. -/
theorem ite_of_fault {fault later : Option Nat} {n : Nat} {bad Q : Prop} [Decidable bad] {Rejects : Nat → Prop}
    (rejects : ∀ m, fault = some m → Rejects m) (h : fault = if bad then some n else later)
    (rest : fault = later → ¬bad → Q) : if bad then Rejects n else Q :=
  ite_prop_iff_and.mpr ⟨fun b => rejects n (h.trans (if_pos b)), fun b => rest (h.trans (if_neg b)) b⟩

/-! ## The contents written (R23, R29, R30) -/

theorem screenContent_ext {c d : ScreenContent} (enabled : c.enabled = d.enabled) (matchValue : c.matchValue = d.matchValue)
    (mask : c.mask = d.mask) (action : c.action = d.action) : c = d := by
  obtain ⟨⟩ := c
  obtain ⟨⟩ := d
  congr

theorem writtenMatchValue {f : ScreenSetFields} {v : ScreenKey}
    (h : ∀ n < 21, v.getLsbD n = (f.matchValue.getLsbD n && f.mask.getLsbD n)) :
    f.matchValue.setWidth 21 &&& f.mask.setWidth 21 = v :=
  BitVec.eq_of_getLsbD_eq fun n hn => by
    rw [BitVec.getLsbD_and, BitVec.getLsbD_setWidth, BitVec.getLsbD_setWidth, h n hn]
    simp [hn]

/-- The action that the fields of a SCREEN-SET spell, once its range checks have passed. -/
theorem writtenAction_eq {f : ScreenSetFields} {a : ScreenAction} (action : ¬(f.action ≠ 1 ∧ f.action ≠ 2))
    (cls : ¬(f.action = 1 ∧ (f.cls.toNat = 0 ∨ 3 < f.cls.toNat)))
    (reason : ¬(f.action = 2 ∧ (f.reason.toNat = 0 ∨ 15 < f.reason.toNat)))
    (emergency : f.action = 1 → f.cls = 1 → a = .assign .emergency (decide (f.preemptible = 1)))
    (priority : f.action = 1 → f.cls = 2 → a = .assign .priority (decide (f.preemptible = 1)))
    (general : f.action = 1 → f.cls = 3 → a = .assign .general (decide (f.preemptible = 1)))
    (bar : f.action = 2 → ∀ r : Fin 16, r.val = f.reason.toNat → a = .bar r) : writtenAction f = a := by
  by_cases assign : f.action = 1
  · have named : f.cls = 1 ∨ f.cls = 2 ∨ f.cls = 3 := by bv_omega
    rw [writtenAction, if_pos assign]
    obtain code | code | code := named
    · rw [emergency assign code, code]
      rfl
    · rw [priority assign code, code]
      rfl
    · rw [general assign code, code]
      rfl
  · have barred : f.action = 2 := not_not.mp fun h => action ⟨assign, h⟩
    have range : f.reason.toNat < 16 := by
      by_contra high
      exact reason ⟨barred, .inr (by omega)⟩
    rw [writtenAction, if_neg assign]
    exact (bar barred _ (Nat.mod_eq_of_lt range)).symm

/-! ## The decision on an entry (R29 to R31, R35) -/

variable {s : State} {i : ScreenIndex}

theorem State.setScreenEntry_self (s : State) (i : ScreenIndex) : s.setScreenEntry i (s.screenEntry i) = s := by
  simp [State.setScreenEntry, State.screenEntry]

theorem State.screenLocked_iff (s : State) (i : ScreenIndex) :
    s.screenLocked i = true ↔ s.guardLock = true ∧ (s.screenEntry i).content.enabled = true ∧
      ((s.screenEntry i).content.action.assignsEmergency = true ∨
        (s.heldCopy i).any (fun h => h.action.assignsEmergency) = true) := by
  unfold State.screenLocked
  cases s.heldCopy i <;> simp [and_assoc]

/-- The write to an enabled entry by the first case of R31 that fits: what a refusal and an accepted write answer, case by
case. -/
theorem State.writeEnabled_answers {Denied : Prop} {Accepted : ScreenEntry → Prop} {c : ScreenContent}
    (enabled : (s.screenEntry i).content.enabled = true) (denied : s.writeEnabled i c = none → Denied)
    (accepted : ∀ x, s.writeEnabled i c = some (s.setScreenEntry i x) → Accepted x) :
    let e := s.screenEntry i
    if c.mask ≠ e.content.mask ∨ c.matchValue ≠ e.content.matchValue then Denied
    else if c.enabled = false then
      (if (s.heldCopy i).isSome then Denied
      else Accepted { e with content := { e.content with enabled := false, action := c.action } })
    else if c.action ≠ e.content.action then
      (if (s.heldCopy i).isSome then Accepted { e with content := { e.content with action := c.action } }
      else Denied)
    else Accepted e := by
  intro e
  refine ite_prop_iff_and.mpr ⟨fun differs => denied (if_pos differs), fun same => ?_⟩
  obtain ⟨mask, matchValue⟩ : c.mask = e.content.mask ∧ c.matchValue = e.content.matchValue := by
    simpa only [not_or, not_not] using same
  have agreed : s.writeEnabled i c = _ := if_neg same
  cases on : c.enabled with
  | false =>
    have content : { e.content with enabled := false, action := c.action } = c :=
      screenContent_ext on.symm matchValue.symm mask.symm rfl
    rw [on, if_pos Bool.false_ne_true] at agreed
    rw [if_pos rfl, content]
    exact ite_prop_iff_and.mpr
      ⟨fun held => denied (agreed.trans (if_pos held)), fun free => accepted _ (agreed.trans (if_neg free))⟩
  | true =>
    have content : { e.content with action := c.action } = c :=
      screenContent_ext (enabled.trans on.symm) matchValue.symm mask.symm rfl
    rw [on, if_neg (not_not.mpr rfl)] at agreed
    rw [if_neg Bool.true_eq_false_eq_False, content]
    have unchanged : some s = some (s.setScreenEntry i e) := congrArg some (s.setScreenEntry_self i).symm
    refine ite_prop_iff_and.mpr ⟨fun edited => ?_, fun equal => accepted _ ((agreed.trans (if_neg equal)).trans unchanged)⟩
    rw [if_pos edited] at agreed
    exact ite_prop_iff_and.mpr
      ⟨fun held => accepted _ (agreed.trans (if_pos held)), fun free => denied (agreed.trans (if_neg free))⟩

/-- Settles O32: the range checks in their order, then the lock, then the write to a disabled or to an enabled entry. -/
theorem screenSetDecision : Obligations.ScreenSetDecision := by
  intro s f new takes enabled mask matchValue emergency priority general bar i e rejected accepted
  have answer := exec_screenSet_takes takes
  simp only [decideBody, decideScreenSet] at answer
  have range : ∀ n, fieldFault (screenSetRange f) = some n → rejected .badField (octet n) := fun n fault => by
    rw [fault] at answer
    exact answer
  refine ite_of_fault range (screenSetRange_fault f) fun faults _ => ?_
  refine ite_of_fault range faults fun faults _ => ?_
  refine ite_of_fault range faults fun faults _ => ?_
  refine ite_of_fault range faults fun faults _ => ?_
  refine ite_of_fault range faults fun faults action => ?_
  refine ite_of_fault range faults fun faults cls => ?_
  refine ite_of_fault range faults fun faults _ => ?_
  refine ite_of_fault range faults fun fault reason => ?_
  have written : writtenContent f = new :=
    screenContent_ext enabled.symm (writtenMatchValue matchValue) mask.symm
      (writtenAction_eq action cls reason emergency priority general bar)
  simp only [fault, written] at answer
  refine ite_prop_iff_and.mpr ⟨fun locked => ?_, fun unlocked => ?_⟩
  · exact answer.trans (congrArg _ (if_pos ((s.afterTaking.screenLocked_iff i).mpr locked)))
  rw [if_neg (mt (s.afterTaking.screenLocked_iff i).mp unlocked)] at answer
  refine ite_prop_iff_and.mpr ⟨fun disabled => ?_, fun not_disabled => ?_⟩
  · exact answer.trans (congrArg _ (if_neg (ne_true_of_eq_false disabled)))
  · have is_enabled : e.content.enabled = true := eq_true_of_ne_false not_disabled
    have writes := answer.trans (congrArg _ (if_pos is_enabled))
    refine State.writeEnabled_answers (s := s.afterTaking) (Accepted := accepted) is_enabled (fun denied => ?_)
      (fun x stored => ?_)
    · simp only [i, denied] at writes
      exact writes
    · simp only [i, stored] at writes
      exact writes

end Sys2Proof.Machine
end

section
/-! SUPPORT. The direct grant of an attempt and what stands before it (R43, R46, R50, R54), the ends of a decision, and what a
decision reads of the state after classification and after the spending of a token. -/

namespace Sys2Proof.Machine

/-! ## The tests of a direct grant -/

/-- The waiting entries beside the emergency list that stand before an attempt of this class in the sector they name (R50, R54). -/
def State.aheadOf (s : State) : CallClass → List Waiting
  | .emergency => []
  | .priority => s.priority
  | .general => s.priority ++ s.general

/-- The grant test of a class in a sector: more FREE slots than the class's effective guard, no eligible emergency entry, and no
entry of its own or a higher class naming the sector (R50, R54). -/
def State.GrantTest (s : State) (cls : CallClass) (t : SectorId) : Prop :=
  (s.sector t).effectiveGuard cls < s.freeCount t ∧ (∀ e ∈ s.emergency, ¬s.EligibleFor e t) ∧
    ∀ e ∈ s.aheadOf cls, e.sector ≠ t

theorem State.not_grantTest_iff (s : State) (cls : CallClass) (t : SectorId) :
    ¬s.GrantTest cls t ↔ s.freeCount t ≤ (s.sector t).effectiveGuard cls ∨ (∃ e ∈ s.emergency, s.EligibleFor e t) ∨
      ∃ e ∈ s.aheadOf cls, e.sector = t := by
  simp only [State.GrantTest, not_and_or, not_lt, not_forall, not_not, exists_prop, ne_eq]

theorem State.passesGuard_iff (s : State) (cls : CallClass) (t : SectorId) :
    s.passesGuard cls t = true ↔ (s.sector t).effectiveGuard cls < s.freeCount t := decide_eq_true_iff

theorem State.not_emergencyStands_iff (s : State) (t : SectorId) :
    ¬s.emergencyStands t = true ↔ ∀ e ∈ s.emergency, ¬s.EligibleFor e t := by
  simp [emergencyStands_iff]

theorem State.not_named_iff (s : State) (cls : CallClass) (t : SectorId) :
    ¬s.named cls t = true ↔ ∀ e ∈ s.waiting cls, e.sector ≠ t := by
  simp [State.named]

/-- The test that `decidePriority` makes (R50). -/
theorem State.priorityTest_iff (s : State) (t : SectorId) :
    (s.passesGuard .priority t = true ∧ ¬s.emergencyStands t = true ∧ ¬s.named .priority t = true) ↔
      s.GrantTest .priority t := by
  rw [State.passesGuard_iff, State.not_emergencyStands_iff, State.not_named_iff]
  rfl

/-- The test that `decideMetered` makes (R54). -/
theorem State.generalTest_iff (s : State) (t : SectorId) :
    (s.passesGuard .general t = true ∧ ¬s.emergencyStands t = true ∧ ¬s.named .priority t = true ∧
      ¬s.named .general t = true) ↔ s.GrantTest .general t := by
  rw [State.passesGuard_iff, State.not_emergencyStands_iff, State.not_named_iff, State.not_named_iff, ← List.forall_mem_append]
  rfl

/-- The emergency grant test of a sector (R46). -/
theorem State.emergencyTest_iff (s : State) (t : SectorId) :
    s.emergencyTest t = true ↔
      (s.sector t).state = .opened ∧ 0 < s.freeCount t ∧ ∀ e ∈ s.emergency, ¬s.EligibleFor e t := by
  rw [State.emergencyTest, Bool.and_eq_true, Bool.and_eq_true, Bool.not_eq_true', ← Bool.not_eq_true, decide_eq_true_iff,
    State.not_emergencyStands_iff, and_assoc, State.isOpen, decide_eq_true_iff]

/-! ## The ends of a decision -/

theorem State.directGrant_of_lowestFree {s : State} {t : SectorId} {n : SlotId} (free : s.LowestFree t n) (f : AdmitFields)
    (cls : CallClass) (pre : Bool) :
    s.directGrant f cls pre t =
      (s.setSlot t n (.active { tag := f.tag, cls := cls, preemptible := flagFor cls pre, admitTime := s.localTime,
                                origin := toSector f.sector })).pushReply (.granted f.tag (t, n) cls (flagFor cls pre)) := by
  rw [State.directGrant, LowestFree.find free]

theorem State.queuePlain_eq (s : State) (f : AdmitFields) (cls : CallClass) (pre : Bool) :
    s.queuePlain f cls pre = (s.setWaiting cls (s.waiting cls ++ [s.newEntry f cls pre])).pushReply
      (.queued f.tag cls ((s.waiting cls).length + 1) false) := by
  simp [State.queuePlain, State.queueEntry, State.appendWaiting]

/-! ## The decisions of PRIORITY and GENERAL (R50 to R56) -/

theorem Sector.not_leaving {r : Sector} (opened : r.state = .opened) : ¬r.leaving = true := by
  rw [Sector.leaving_iff, opened]
  simp

section
variable {s : State} {f : AdmitFields} {pre : Bool}

theorem State.decidePriority_of_granted (opened : (s.sector (toSector f.sector)).state = .opened)
    (test : s.GrantTest .priority (toSector f.sector)) :
    s.decidePriority f pre = s.directGrant f .priority pre (toSector f.sector) :=
  (if_neg (Sector.not_leaving opened)).trans (if_pos ((s.priorityTest_iff _).mpr test))

theorem State.decidePriority_of_not_granted (opened : (s.sector (toSector f.sector)).state = .opened)
    (test : ¬s.GrantTest .priority (toSector f.sector)) :
    s.decidePriority f pre =
      if s.priority.length < 48 then s.queuePlain f .priority pre else s.refuse f (.listFull .priority) :=
  (if_neg (Sector.not_leaving opened)).trans (if_neg (mt (s.priorityTest_iff _).mp test))

theorem State.decideGeneral_of_token (opened : (s.sector (toSector f.sector)).state = .opened)
    (token : 0 < (s.sector (toSector f.sector)).tokens) :
    s.decideGeneral f pre = (s.spendToken (toSector f.sector)).decideMetered f pre :=
  (if_neg (Sector.not_leaving opened)).trans (if_neg token.ne')

theorem State.decideMetered_of_granted (test : s.GrantTest .general (toSector f.sector)) :
    s.decideMetered f pre = s.directGrant f .general pre (toSector f.sector) :=
  if_pos ((s.generalTest_iff _).mpr test)

theorem State.decideMetered_of_room (test : ¬s.GrantTest .general (toSector f.sector)) (room : s.general.length < 96) :
    s.decideMetered f pre = s.queuePlain f .general pre :=
  (if_neg (mt (s.generalTest_iff _).mp test)).trans (if_pos room)

theorem State.decideMetered_of_protect (test : ¬s.GrantTest .general (toSector f.sector)) (full : 96 ≤ s.general.length)
    (policy : s.settings.policy = .protect) : s.decideMetered f pre = s.refuse f (.listFull .general) := by
  refine (if_neg (mt (s.generalTest_iff _).mp test)).trans ((if_neg (Nat.not_lt.mpr full)).trans ?_)
  simp only [policy]

theorem State.decideMetered_of_displace {oldest : Waiting} {rest : List Waiting}
    (test : ¬s.GrantTest .general (toSector f.sector)) (full : 96 ≤ s.general.length) (policy : s.settings.policy = .displace)
    (general : s.general = oldest :: rest) :
    s.decideMetered f pre =
      if s.freePlaces = 0 then s.refuse f (.listFull .general) else (s.displace oldest).queuePlain f .general pre := by
  refine (if_neg (mt (s.generalTest_iff _).mp test)).trans ((if_neg (Nat.not_lt.mpr full)).trans ?_)
  simp only [policy, general]

end

/-! ## What a decision reads of the state after classification -/

section
variable (s : State) (f : AdmitFields)

@[simp] theorem State.classified_localTime : (s.classified f).localTime = s.localTime := by
  rw [State.classified_frame]
  rfl

@[simp] theorem State.classified_settings : (s.classified f).settings = s.settings := by
  rw [State.classified_frame]
  rfl

@[simp] theorem State.classified_emergencyFull : (s.classified f).emergencyFull = s.emergencyFull := by
  rw [State.classified_frame]
  rfl

@[simp] theorem State.classified_actionLane : (s.classified f).link.actionLane = s.link.actionLane := by
  rw [State.classified_frame]
  rfl

@[simp] theorem State.classified_emergency : (s.classified f).emergency = s.emergency := by
  rw [State.classified_frame]
  rfl

@[simp] theorem State.classified_priority : (s.classified f).priority = s.priority := by
  rw [State.classified_frame]
  rfl

@[simp] theorem State.classified_general : (s.classified f).general = s.general := by
  rw [State.classified_frame]
  rfl

@[simp] theorem State.classified_newEntry (cls : CallClass) (pre : Bool) :
    (s.classified f).newEntry f cls pre = s.newEntry f cls pre := by
  rw [State.classified_frame]
  rfl

@[simp] theorem State.classified_lowestFree (t : SectorId) (n : SlotId) :
    (s.classified f).LowestFree t n ↔ s.LowestFree t n := by
  rw [State.classified_frame]
  rfl

@[simp] theorem State.classified_grantTest (cls : CallClass) (t : SectorId) :
    (s.classified f).GrantTest cls t ↔ s.GrantTest cls t := by
  rw [State.classified_frame]
  cases cls <;> rfl

@[simp] theorem State.classified_emergencyTest (t : SectorId) : (s.classified f).emergencyTest t = s.emergencyTest t := by
  rw [State.classified_frame]
  rfl

theorem State.refuse_classified (reason : RefusalReason) :
    (s.classified f).refuse f reason = ((s.classified f).recordRefusal f.key).pushReply
      (.refused f.tag reason (s.retryHint f.key (toSector f.sector))) := by
  rw [State.refuse, State.classified_retryHint]

end

/-! ## What a decision reads of the state after the spending of a token (R53) -/

section
variable (s : State) (t : SectorId)

theorem State.spendToken_sector (u : SectorId) :
    (s.spendToken t).sector u =
      { s.sector u with tokens := if t = u then (s.sector u).tokens - 1 else (s.sector u).tokens } := by
  rw [State.spendToken, State.sector_setSector]
  by_cases same : t = u
  · simp only [same, if_true]
  · simp only [same, if_false]

theorem State.spendToken_eligibleFor (e : Waiting) (u : SectorId) : (s.spendToken t).EligibleFor e u ↔ s.EligibleFor e u := by
  rw [State.EligibleFor, State.spendToken_sector]
  rfl

@[simp] theorem State.spendToken_grantTest (cls : CallClass) (u : SectorId) :
    (s.spendToken t).GrantTest cls u ↔ s.GrantTest cls u := by
  simp only [State.GrantTest, State.spendToken_eligibleFor, State.spendToken_sector]
  cases cls <;> rfl

@[simp] theorem State.spendToken_retryHint (k : CallerKey) (u : SectorId) :
    (s.spendToken t).retryHint k u = s.retryHint k u := by
  rw [State.retryHint, State.backoffBase, State.spendToken_sector]
  rfl

end

/-! ## The state in which a GENERAL attempt with a token is decided (R53) -/

/-- The state in which a GENERAL attempt with a token is decided: classified, and the token spent. -/
def State.metered (s : State) (f : AdmitFields) : State := (s.classified f).spendToken (toSector f.sector)

section
variable (s : State) (f : AdmitFields)

theorem State.metered_eq :
    s.metered f = (s.classified f).setSector (toSector f.sector)
      { s.sector (toSector f.sector) with tokens := (s.sector (toSector f.sector)).tokens - 1 } := by
  rw [State.metered, State.spendToken, State.classified_sector]

@[simp] theorem State.metered_localTime : (s.metered f).localTime = s.localTime := s.classified_localTime f

@[simp] theorem State.metered_settings : (s.metered f).settings = s.settings := s.classified_settings f

@[simp] theorem State.metered_general : (s.metered f).general = s.general := s.classified_general f

@[simp] theorem State.metered_freePlaces : (s.metered f).freePlaces = s.freePlaces :=
  congrArg (fun lane : List ActionReport => Config.actionPlaces - lane.length) (s.classified_actionLane f)

@[simp] theorem State.metered_newEntry (cls : CallClass) (pre : Bool) :
    (s.metered f).newEntry f cls pre = s.newEntry f cls pre := s.classified_newEntry f cls pre

@[simp] theorem State.metered_lowestFree (t : SectorId) (n : SlotId) : (s.metered f).LowestFree t n ↔ s.LowestFree t n :=
  s.classified_lowestFree f t n

@[simp] theorem State.metered_grantTest (cls : CallClass) (t : SectorId) :
    (s.metered f).GrantTest cls t ↔ s.GrantTest cls t := by
  simp [State.metered]

@[simp] theorem State.metered_retryHint (k : CallerKey) (t : SectorId) : (s.metered f).retryHint k t = s.retryHint k t := by
  simp [State.metered]

theorem State.refuse_metered (reason : RefusalReason) :
    (s.metered f).refuse f reason = ((s.metered f).recordRefusal f.key).pushReply
      (.refused f.tag reason (s.retryHint f.key (toSector f.sector))) := by
  rw [State.refuse, State.metered_retryHint]

end

theorem exec_admitCall_of_metered {s : State} {f : AdmitFields} {pre : Bool} (takes : s.Takes (.admitCall (.ok f)))
    (passes : s.PassesChecks f) (attempt : s.classOf f = .attempt .general pre)
    (opened : (s.sector (toSector f.sector)).state = .opened) (token : 0 < (s.sector (toSector f.sector)).tokens) :
    exec (.admitCall (.ok f)) s = .next ((s.metered f).decideMetered f pre) := by
  rw [exec_admitCall_of_attempt takes passes attempt, State.decideClass,
    State.decideGeneral_of_token (by rwa [State.classified_sector]) (by rwa [State.classified_sector]), State.metered]

end Sys2Proof.Machine
end

section
/-! PROOFS. The request checks of an ADMIT, and the decisions of PRIORITY and GENERAL attempts (R38, R50 to R56). -/

namespace Sys2Proof.Machine

/-! ## The request checks (R38) -/

theorem admitChecks_fault (f : AdmitFields) :
    fieldFault (admitChecks f) =
      if f.tag = 0 then some 1
      else if 15 < f.sector.toNat then some 2
      else if 15 < f.accessClass.toNat then some 5
      else if 1 < f.cause.toNat then some 6
      else none := by
  refine fieldFault_cons ?tag (fieldFault_cons ?sector (fieldFault_cons ?accessClass (fieldFault_cons ?cause rfl)))
  case tag => rw [decide_eq_false_iff_not, not_not]
  case cause => rw [yesNo, decide_eq_false_iff_not, not_le]
  all_goals rw [decide_eq_false_iff_not, not_le]

/-- Settles O10: the first field check that fails answers, and with none the state of the sector and then the tag. -/
theorem admitRequestChecks : Obligations.AdmitRequestChecks := by
  intro s f takes rejected
  have answer : exec (.admitCall (.ok f)) s = .next (decideAdmit f s.afterTaking) := exec_admitCall_takes takes
  have range : ∀ n, fieldFault (admitChecks f) = some n → rejected .badField (octet n) := fun n fault => by
    rw [decideAdmit, fault] at answer
    exact answer
  have fault := admitChecks_fault f
  refine ⟨fun tag => ?_, fun tag sector => ?_, fun tag sector accessClass => ?_, fun tag sector accessClass cause => ?_,
    fun tag sector accessClass cause => ?_⟩
  · exact range 1 (by rw [fault, if_pos tag])
  · exact range 2 (by rw [fault, if_neg tag, if_pos sector])
  · exact range 5 (by rw [fault, if_neg tag, if_neg sector.not_gt, if_pos accessClass])
  · exact range 6 (by rw [fault, if_neg tag, if_neg sector.not_gt, if_neg accessClass.not_gt, if_pos cause])
  · rw [if_neg tag, if_neg sector.not_gt, if_neg accessClass.not_gt, if_neg cause.not_gt] at fault
    rw [decideAdmit, fault] at answer
    refine ⟨fun disabled => ?_, fun usable held => ?_⟩
    · exact answer.trans (congrArg _ (if_pos disabled))
    · have tagHeld : s.afterTaking.tagHeld f.tag = true := (holds_iff s.afterTaking f.tag).mp held
      exact answer.trans (congrArg _ ((if_neg usable).trans (if_pos tagHeld)))

/-! ## PRIORITY (R50, R51) -/

/-- Settles O13: by the grant test, and without it by the room in the priority list. -/
theorem priorityDecision : Obligations.PriorityDecision := by
  refine ⟨fun s f pre n takes passes attempt => ?_, fun s f pre takes passes attempt => ?_⟩ <;>
    rw [exec_admitCall_of_attempt takes passes attempt, State.decideClass]
  · intro t opened guard emergency priority free
    have test : s.GrantTest .priority t := ⟨guard, emergency, priority⟩
    rw [State.decidePriority_of_granted (by rwa [State.classified_sector]) ((s.classified_grantTest f _ _).mpr test),
      State.directGrant_of_lowestFree ((s.classified_lowestFree f _ _).mpr free), State.classified_localTime]
    rfl
  · intro t opened fails
    have test : ¬s.GrantTest .priority t := (s.not_grantTest_iff .priority t).mpr fails
    rw [State.decidePriority_of_not_granted (by rwa [State.classified_sector]) ((s.classified_grantTest f _ _).not.mpr test),
      State.classified_priority]
    refine ⟨fun room => ?_, fun full => ?_⟩
    · rw [if_pos room, State.queuePlain_eq, State.classified_newEntry, State.waiting, State.classified_priority]
      rfl
    · rw [if_neg (Nat.not_lt.mpr full), State.refuse_classified]

/-! ## GENERAL (R53 to R56) -/

/-- Settles O14: the grant test reads nothing that the spending of the token writes. -/
theorem generalDirectGrant : Obligations.GeneralDirectGrant := by
  intro s f pre n takes passes attempt t r opened token guard emergency lists free
  have test : s.GrantTest .general t := ⟨guard, emergency, lists⟩
  rw [exec_admitCall_of_metered takes passes attempt opened token,
    State.decideMetered_of_granted ((s.metered_grantTest f _ _).mpr test),
    State.directGrant_of_lowestFree ((s.metered_lowestFree f _ _).mpr free), State.metered_localTime, State.metered_eq]
  rfl

theorem State.freePlaces_eq_zero_iff (s : State) : s.freePlaces = 0 ↔ 48 ≤ s.link.actionLane.length := Nat.sub_eq_zero_iff_le

/-- An attempt that joins the general list behind a displaced entry takes its last place (R56). -/
theorem State.displace_queuePlain {s : State} {oldest : Waiting} {rest : List Waiting} (general : s.general = oldest :: rest)
    (f : AdmitFields) (pre : Bool) :
    (s.displace oldest).queuePlain f .general pre =
      ((s.setWaiting .general (rest ++ [s.newEntry f .general pre])).placeAction
        (.expired oldest.tag .general .displaced (s.localTime - oldest.arrival)
          (s.retryHint oldest.key oldest.sector))).pushReply (.queued f.tag .general s.general.length false) := by
  have left : (s.displace oldest).waiting .general = rest := congrArg (List.drop 1) general
  rw [State.queuePlain_eq, left, general]
  rfl

/-- Settles O15: by the room in the general list, then the policy, then the room in the action lane. -/
theorem generalAttemptWaits : Obligations.GeneralAttemptWaits := by
  intro s f pre takes passes attempt t r metered entry refused opened token fails
  have decided := exec_admitCall_of_metered takes passes attempt opened token
  have test : ¬(s.metered f).GrantTest .general t :=
    (s.metered_grantTest f _ _).not.mpr ((s.not_grantTest_iff .general t).mpr fails)
  have metered_eq : s.metered f = metered := s.metered_eq f
  have general : (s.metered f).general = s.general := s.metered_general f
  have settings : (s.metered f).settings = s.settings := s.metered_settings f
  have refuse (h : (s.metered f).decideMetered f pre = (s.metered f).refuse f (.listFull .general)) : refused := by
    rw [h, State.refuse_metered, metered_eq] at decided
    exact decided
  refine ⟨fun room => ?_, fun full protect => ?_, fun full displace no_place => ?_,
    fun oldest rest list full displace place => ?_⟩
  · rw [decided, State.decideMetered_of_room test (general ▸ room), State.queuePlain_eq, State.metered_newEntry, State.waiting,
      general, metered_eq]
    rfl
  · exact refuse (State.decideMetered_of_protect test (general ▸ full.ge) (settings ▸ protect))
  · obtain ⟨oldest, rest, list⟩ := List.exists_cons_of_length_pos (by omega : 0 < s.general.length)
    refine refuse ?_
    rw [State.decideMetered_of_displace test (general ▸ full.ge) (settings ▸ displace) (general.trans list),
      State.metered_freePlaces, if_pos (s.freePlaces_eq_zero_iff.mpr no_place)]
  · have has_place : s.freePlaces ≠ 0 := mt s.freePlaces_eq_zero_iff.mp (Nat.not_le.mpr place)
    rw [decided, State.decideMetered_of_displace test (general ▸ full.ge) (settings ▸ displace) (general.trans list),
      State.metered_freePlaces, if_neg has_place, State.displace_queuePlain (general.trans list), State.metered_newEntry,
      State.metered_localTime, State.metered_retryHint, general, full, metered_eq]
    rfl

end Sys2Proof.Machine
end

section
/-! SUPPORT. An EMERGENCY attempt (R41 to R48): the merge test, the entry that a merge writes, the search for a sector to grant in,
and the tags that a victim-search pass keeps. -/

namespace Sys2Proof.Machine

/-! ## The merge (R41, R42) -/

section
variable {s : State} {f : AdmitFields}

theorem State.mergeOrDecide_of_unmerged (h : f.key = 0 ∨ ∀ e ∈ s.emergency, e.key ≠ f.key) :
    s.mergeOrDecide f = s.decideEmergency f := by
  have unmerged : (if f.key = 0 then none else s.emergency.find? (fun e => e.key == f.key)) = none := by
    rw [ite_eq_left_iff, List.find?_eq_none]
    exact fun key e he => by simpa using h.resolve_left key e he
  simp only [State.mergeOrDecide, unmerged]

theorem State.mergeOrDecide_of_first {older newer : List Waiting} {e : Waiting} (key : f.key ≠ 0)
    (emergency : s.emergency = older ++ e :: newer) (carries : e.key = f.key) (first : ∀ x ∈ older, x.key ≠ f.key) :
    s.mergeOrDecide f = s.merge f e := by
  have found : (if f.key = 0 then none else s.emergency.find? (fun x => x.key == f.key)) = some e := by
    rw [if_neg key, List.find?_eq_some_iff_append]
    exact ⟨by simpa using carries, older, newer, emergency, fun x hx => by simpa using first x hx⟩
  simp only [State.mergeOrDecide, found]

end

theorem position_of_first {older newer : List Waiting} {e : Waiting} {p : Waiting → Bool} (holds : p e = true)
    (first : ∀ x ∈ older, p x = false) : position (older ++ e :: newer) p = older.length + 1 := by
  have no_older : older.findIdx p = older.length := List.findIdx_eq_length.mpr first
  simp [position, List.findIdx_append, List.findIdx_cons, holds, no_older]

/-- A change by tag to an emergency entry that no other shares the tag of. -/
theorem State.updateEmergency_of_unique {s : State} {older newer : List Waiting} {e : Waiting} (g : Waiting → Waiting)
    (emergency : s.emergency = older ++ e :: newer) (unique : ∀ x ∈ older ++ newer, x.tag ≠ e.tag) :
    s.updateEmergency e.tag g = s.setWaiting .emergency (older ++ g e :: newer) := by
  have unchanged (l : List Waiting) (other : ∀ x ∈ l, x.tag ≠ e.tag) :
      l.map (fun x => if x.tag = e.tag then g x else x) = l :=
    (List.map_congr_left fun x hx => if_neg (other x hx)).trans (List.map_id' l)
  obtain ⟨old, new⟩ := List.forall_mem_append.mp unique
  rw [State.updateEmergency, emergency, List.map_append, List.map_cons, if_pos rfl, unchanged older old, unchanged newer new]
  rfl

/-- Emergency entries have distinct tags (R39). -/
theorem State.RecordsPaired.tag_ne {s : State} (paired : s.RecordsPaired) {older newer : List Waiting} {e : Waiting}
    (emergency : s.emergency = older ++ e :: newer) : ∀ x ∈ older ++ newer, x.tag ≠ e.tag := by
  have tags : (s.emergency.map Waiting.tag).Nodup := by
    refine paired.waitingTags.sublist (List.Sublist.map _ ?_)
    rw [List.append_assoc]
    exact List.sublist_append_left _ _
  rw [emergency, List.map_append, List.map_cons, List.nodup_middle, List.nodup_cons, ← List.map_append] at tags
  exact fun x hx same => tags.1 (same ▸ List.mem_map_of_mem hx)

/-- The entry that carries the key of an attempt is the first that does: no two emergency entries share a key but 0 (R41). -/
theorem State.RecordsPaired.key_ne {s : State} (paired : s.RecordsPaired) {older newer : List Waiting} {e : Waiting}
    (emergency : s.emergency = older ++ e :: newer) (key : e.key ≠ 0) : ∀ x ∈ older, x.key ≠ e.key := fun x hx same =>
  paired.tag_ne emergency x (List.mem_append_left _ hx)
    (paired.keys x (by simp [emergency, hx]) e (by simp [emergency]) same (same ▸ key))

/-! ## The search for a sector to grant in (R45, R46) -/

section
variable {s : State} {f : AdmitFields}

/-- The sectors in which an EMERGENCY attempt may be granted, in their order: its own, then that sector's neighbours (R45). -/
def State.grantSectors (s : State) (f : AdmitFields) : List SectorId :=
  toSector f.sector :: (s.sector (toSector f.sector)).neighbours

theorem State.decideEmergency_of_passes {before later : List SectorId} {u : SectorId}
    (sectors : s.grantSectors f = before ++ u :: later) (fails : ∀ v ∈ before, ¬s.emergencyTest v = true)
    (passes : s.emergencyTest u = true) : s.decideEmergency f = s.directGrant f .emergency false u := by
  have found : (s.grantSectors f).find? (fun v => s.emergencyTest v) = some u :=
    List.find?_eq_some_iff_append.mpr ⟨passes, before, later, sectors, fun v hv => by simpa using fails v hv⟩
  rw [State.grantSectors] at found
  simp only [State.decideEmergency, found]

theorem State.decideEmergency_of_fails (fails : ∀ v ∈ s.grantSectors f, ¬s.emergencyTest v = true) :
    s.decideEmergency f = if s.emergency.length < 32 then s.queueEmergency f else s.refuseEmergencyFull f := by
  have none_passes : (s.grantSectors f).find? (fun v => s.emergencyTest v) = none := List.find?_eq_none.mpr fails
  rw [State.grantSectors] at none_passes
  simp only [State.decideEmergency, none_passes]

end

/-! ## The tags of the emergency list over a pass (R93) -/

theorem State.updateEmergency_tags (s : State) (tag : Tag) (g : Waiting → Waiting) (keeps : ∀ e, (g e).tag = e.tag) :
    (s.updateEmergency tag g).emergency.map Waiting.tag = s.emergency.map Waiting.tag := by
  rw [State.updateEmergency, List.map_map]
  refine List.map_congr_left fun e _ => ?_
  rw [Function.comp_apply]
  split
  · exact keeps e
  · rfl

theorem State.startPreemption_tags (s : State) (e : Waiting) (t : SectorId) (n : SlotId) (c : Call) :
    (s.startPreemption e t n c).emergency.map Waiting.tag = s.emergency.map Waiting.tag :=
  (s.setSlot t n _).updateEmergency_tags e.tag _ fun _ => rfl

theorem passWalk_tags (l : List Waiting) (s : State) :
    (passWalk l s).emergency.map Waiting.tag = s.emergency.map Waiting.tag := by
  induction l generalizing s with
  | nil => rfl
  | cons e rest ih =>
    obtain ⟨_, h⟩ | ⟨_, _, h⟩ | ⟨_, _, _, _, h⟩ | ⟨t, n, c, _, _, _, h⟩ := passWalk_cons_cases e rest s <;> rw [h]
    · exact ih s
    · exact ih s
    · exact (ih _).trans (s.startPreemption_tags e t n c)

theorem State.pass_tags (s : State) : s.pass.emergency.map Waiting.tag = s.emergency.map Waiting.tag := passWalk_tags _ _

/-- Where the newest entry alone has a tag, the entry found by it is the one that a test of every entry reaches. -/
theorem State.holdsEarmark_of_newest {s : State} {tags : List Tag} {tag : Tag}
    (h : s.emergency.map Waiting.tag = tags ++ [tag]) (new : tag ∉ tags) :
    s.holdsEarmark tag = s.emergency.any (fun e => decide (e.tag = tag) && e.earmark.isSome) := by
  obtain ⟨older, newest, emergency, rfl, last⟩ := List.map_eq_append_iff.mp h
  obtain ⟨e, rfl, rfl⟩ := List.map_eq_singleton_iff.mp last
  have others : ∀ x ∈ older, x.tag ≠ e.tag := fun x hx same => new (same ▸ List.mem_map_of_mem hx)
  have found : s.entryIn .emergency e.tag = some e := by
    rw [State.entryIn, List.find?_eq_some_iff_append]
    exact ⟨by simp, older, [], emergency, fun x hx => by simpa using others x hx⟩
  have none_older : older.any (fun x => decide (x.tag = e.tag) && x.earmark.isSome) = false :=
    List.any_eq_false.mpr fun x hx => by simp [others x hx]
  simp only [State.holdsEarmark, found, emergency, List.any_append, none_older]
  simp

/-! ## The attempt queued (R48) -/

section
variable {s : State} {f : AdmitFields}

/-- The entry of an EMERGENCY attempt is escalated at once when the escalation time is 0, and has an escalation point otherwise
(R48, R89). -/
theorem State.newEntry_emergency (s : State) (f : AdmitFields) :
    s.newEntry f .emergency false =
      { tag := f.tag, cls := .emergency, sector := toSector f.sector, key := f.key, preemptible := false,
        arrival := s.localTime, deadline := after s.localTime (s.settings.emergencyWait * 1000), watch := .watched,
        merged := 0, escalated := decide (s.settings.escalationTime = 0),
        escalationPoint := if s.settings.escalationTime = 0 then none
          else some (after s.localTime (s.settings.escalationTime * 1000)), earmark := none } := by
  by_cases at_once : s.settings.escalationTime = 0 <;> simp [State.newEntry, flagFor, Settings.wait, at_once]

/-- The pass keeps the tags of the list, so the indication of the reply reads the entry that has joined, whose tag was not there
(R48). -/
theorem State.queueEmergency_eq (new : ∀ e ∈ s.emergency, e.tag ≠ f.tag) :
    s.queueEmergency f =
      (s.queueEntry f .emergency false).pass.pushReply
        (.queued f.tag .emergency (s.emergency.length + 1)
          ((s.queueEntry f .emergency false).pass.emergency.any
            (fun e => decide (e.tag = f.tag) && e.earmark.isSome))) := by
  have tags : (s.queueEntry f .emergency false).pass.emergency.map Waiting.tag = s.emergency.map Waiting.tag ++ [f.tag] :=
    (State.pass_tags _).trans (List.map_append ..)
  have length : (s.queueEntry f .emergency false).emergency.length = s.emergency.length + 1 := List.length_append
  have not_held : f.tag ∉ s.emergency.map Waiting.tag := fun held => by
    obtain ⟨e, he, same⟩ := List.mem_map.mp held
    exact new e he same
  simp only [State.queueEmergency, State.holdsEarmark_of_newest tags not_held, length]

end

/-! ## The decision on the classified state -/

/-- An EMERGENCY attempt whose key no emergency entry carries goes to the grant test (R41, R45). -/
theorem exec_admitCall_of_unmerged {s : State} {f : AdmitFields} {pre : Bool} (takes : s.Takes (.admitCall (.ok f)))
    (passes : s.PassesChecks f) (attempt : s.classOf f = .attempt .emergency pre)
    (unmerged : f.key = 0 ∨ ∀ e ∈ s.emergency, e.key ≠ f.key) :
    exec (.admitCall (.ok f)) s = .next ((s.classified f).decideEmergency f) := by
  rw [exec_admitCall_of_attempt takes passes attempt, State.decideClass,
    State.mergeOrDecide_of_unmerged (by rwa [State.classified_emergency])]

@[simp] theorem State.classified_grantSectors (s : State) (f : AdmitFields) :
    (s.classified f).grantSectors f = s.grantSectors f := by
  rw [State.grantSectors, State.classified_sector, State.grantSectors]

theorem State.classified_emergencyTest_iff (s : State) (f : AdmitFields) (v : SectorId) :
    (s.classified f).emergencyTest v = true ↔
      (s.sector v).state = .opened ∧ 0 < s.freeCount v ∧ ∀ e ∈ s.emergency, ¬s.EligibleFor e v := by
  rw [State.classified_emergencyTest, State.emergencyTest_iff]

end Sys2Proof.Machine
end

section
/-! PROOFS. The decisions of EMERGENCY attempts (R42, R46 to R48). -/

namespace Sys2Proof.Machine

/-- Settles O16: the entry that carries the key is the first that does, and the only one with its tag. -/
theorem emergencyMerge : Obligations.EmergencyMerge := by
  intro s f pre older newer e takes passes paired attempt emergency carries key
  have list : (s.classified f).emergency = older ++ e :: newer := (s.classified_emergency f).trans emergency
  have first : ∀ x ∈ older, x.key ≠ f.key := carries ▸ paired.key_ne emergency (carries ▸ key)
  have place : position (older ++ e :: newer) (fun x => x.key == f.key) = older.length + 1 :=
    position_of_first (beq_iff_eq.mpr carries) fun x hx => beq_eq_false_iff_ne.mpr (first x hx)
  rw [exec_admitCall_of_attempt takes passes attempt, State.decideClass, State.mergeOrDecide_of_first key list carries first,
    State.merge, State.updateEmergency_of_unique _ list (paired.tag_ne emergency), list, place]

/-- Settles O17: the search goes through the own sector and its neighbours in list order. -/
theorem emergencyDirectGrant : Obligations.EmergencyDirectGrant := by
  intro s f pre before later u n takes passes attempt unmerged grants sectors fails granted free
  have sectors' : (s.classified f).grantSectors f = before ++ u :: later := (s.classified_grantSectors f).trans sectors
  rw [exec_admitCall_of_unmerged takes passes attempt unmerged,
    State.decideEmergency_of_passes sectors' (fun v hv => (s.classified_emergencyTest_iff f v).not.mpr (fails v hv))
      ((s.classified_emergencyTest_iff f u).mpr granted),
    State.directGrant_of_lowestFree ((s.classified_lowestFree f u n).mpr free), State.classified_localTime]
  rfl

/-- Settles O18: by the room in the emergency list; the tag of the new entry is not held, so the pass leaves one entry with it. -/
theorem emergencyAttemptWaits : Obligations.EmergencyAttemptWaits := by
  intro s f pre takes passes attempt unmerged fails point entry p
  have ⟨_, _, _, _, _, not_held⟩ := passes
  have new : ∀ e ∈ (s.classified f).emergency, e.tag ≠ f.tag := fun e he same => by
    rw [State.classified_emergency] at he
    exact not_held (.inl ⟨e, List.mem_append_left _ (List.mem_append_left _ he), same⟩)
  have none_passes : ∀ v ∈ (s.classified f).grantSectors f, ¬(s.classified f).emergencyTest v = true := fun v hv test => by
    rw [State.classified_grantSectors] at hv
    obtain ⟨opened, free, clear⟩ := (s.classified_emergencyTest_iff f v).mp test
    obtain not_opened | none_free | ⟨e, he, eligible⟩ := fails v hv
    · exact not_opened opened
    · exact free.ne' none_free
    · exact clear e he eligible
  rw [exec_admitCall_of_unmerged takes passes attempt unmerged, State.decideEmergency_of_fails none_passes,
    State.classified_emergency]
  refine ⟨fun full => ?_, fun room => ?_⟩
  · rw [if_neg (Nat.not_lt.mpr full), State.refuseEmergencyFull, State.classified_emergencyFull]
    rfl
  · rw [if_pos room, State.queueEmergency_eq new, State.queueEntry, State.appendWaiting, State.classified_newEntry,
      State.newEntry_emergency, State.waiting, State.classified_emergency]

end Sys2Proof.Machine
end

section
/-! SUPPORT. The waiting entry or slot that a tag names (R39), and the removal of a waiting entry with its earmark (R63, R83, R84,
R111). -/

namespace Sys2Proof.Machine

variable {s : State}

/-! ## Waiting entries by tag -/

theorem State.mem_waiting_append {e : Waiting} {c : CallClass} (mem : e ∈ s.waiting c) :
    e ∈ s.emergency ++ s.priority ++ s.general := by
  cases c <;> simp_all [State.waiting]

theorem State.RecordsPaired.cls_of_mem (paired : s.RecordsPaired) {c : CallClass} {e : Waiting} (mem : e ∈ s.waiting c) :
    e.cls = c := by
  cases c with
  | emergency => exact (paired.emergencyClass e mem).1
  | priority => exact (paired.priorityClass e mem).1
  | general => exact (paired.generalClass e mem).1

/-- Only an emergency entry holds an earmark (R88). -/
theorem State.RecordsPaired.emergency_of_earmark (paired : s.RecordsPaired) {c : CallClass} {e : Waiting} {p : Place}
    (mem : e ∈ s.waiting c) (earmark : e.earmark = some p) : c = .emergency := by
  cases c with
  | emergency => rfl
  | priority => simp [(paired.priorityClass e mem).2] at earmark
  | general => simp [(paired.generalClass e mem).2] at earmark

theorem State.mem_waiting_of_eq {c : CallClass} {older newer : List Waiting} {e : Waiting}
    (list : s.waiting c = older ++ e :: newer) : e ∈ s.waiting c := by simp [list]

/-- A tag names one waiting entry (R39). -/
theorem State.RecordsPaired.entry_eq (paired : s.RecordsPaired) {c d : CallClass} {e x : Waiting} (he : e ∈ s.waiting c)
    (hx : x ∈ s.waiting d) (same : x.tag = e.tag) : x = e :=
  List.inj_on_of_nodup_map paired.waitingTags (State.mem_waiting_append hx) (State.mem_waiting_append he) same

/-- No other entry of a list shares an entry's tag (R39). -/
theorem State.RecordsPaired.waiting_tag_ne (paired : s.RecordsPaired) {c : CallClass} {older newer : List Waiting} {e : Waiting}
    (list : s.waiting c = older ++ e :: newer) : ∀ x ∈ older ++ newer, x.tag ≠ e.tag := by
  have sub : (s.waiting c).Sublist (s.emergency ++ s.priority ++ s.general) := by
    cases c with
    | emergency => exact (List.sublist_append_left _ _).trans (List.sublist_append_left _ _)
    | priority => exact (List.sublist_append_right _ _).trans (List.sublist_append_left _ _)
    | general => exact List.sublist_append_right _ _
  have entries : (older ++ e :: newer).Nodup := list ▸ (List.Nodup.of_map _ paired.waitingTags).sublist sub
  intro x hx same
  have mem : x ∈ s.waiting c := by
    rw [list]
    exact List.mem_append.mpr ((List.mem_append.mp hx).imp_right (List.mem_cons_of_mem _))
  have eq : x = e := paired.entry_eq (State.mem_waiting_of_eq list) mem same
  exact (List.nodup_cons.mp (List.nodup_middle.mp entries)).1 (eq ▸ hx)

theorem State.mem_of_entryWith {tag : Tag} {c : CallClass} {e : Waiting} (h : s.entryWith tag = some (c, e)) :
    e ∈ s.waiting c ∧ e.tag = tag := by
  have found : s.entryIn c tag = some e := by
    unfold State.entryWith at h
    split at h
    · simp_all
    · split at h
      · simp_all
      · split at h <;> simp_all
  exact ⟨List.mem_of_find?_eq_some found, by simpa using List.find?_some found⟩

theorem State.RecordsPaired.entryWith_of_mem (paired : s.RecordsPaired) {c : CallClass} {e : Waiting} (mem : e ∈ s.waiting c) :
    s.entryWith e.tag = some (c, e) := by
  have isSome := (entryWith_isSome s e.tag).mpr ⟨e, State.mem_waiting_append mem, rfl⟩
  obtain ⟨⟨d, x⟩, found⟩ := Option.isSome_iff_exists.mp isSome
  obtain ⟨hx, same⟩ := State.mem_of_entryWith found
  have eq : x = e := paired.entry_eq mem hx same
  rw [found, ← paired.cls_of_mem hx, ← paired.cls_of_mem mem, eq]

/-! ## Slots by the tag of their call -/

theorem State.call?_of_slotWith {tag : Tag} {p : Place} (h : s.slotWith tag = some p) :
    ∃ c, (s.slot p.1 p.2).call? = some c ∧ c.tag = tag := by
  simpa using List.find?_some h

/-- A tag names one slot (R39). -/
theorem State.RecordsPaired.slotWith_of_call (paired : s.RecordsPaired) {t : SectorId} {n : SlotId} {c : Call}
    (call : (s.slot t n).call? = some c) : s.slotWith c.tag = some (t, n) := by
  have isSome : (s.slotWith c.tag).isSome = true := by
    rw [State.slotWith, List.find?_isSome]
    exact ⟨(t, n), mem_allPlaces t n, by simp [call]⟩
  obtain ⟨⟨u, m⟩, found⟩ := Option.isSome_iff_exists.mp isSome
  obtain ⟨d, other, same⟩ := State.call?_of_slotWith found
  obtain ⟨rfl, rfl⟩ := paired.slotTags u m d t n c other call same
  exact found

/-- The tag of a waiting entry is in no slot (R39). -/
theorem State.RecordsPaired.slotWith_of_waiting (paired : s.RecordsPaired) {tag : Tag} (waits : tag ∈ s.waitingTags) :
    s.slotWith tag = none := by
  rw [Option.eq_none_iff_forall_ne_some]
  intro p found
  obtain ⟨c, call, rfl⟩ := State.call?_of_slotWith found
  exact (paired.slotTagNonzero p.1 p.2 c call).2 waits

theorem State.entryWith_isSome_iff (s : State) (tag : Tag) : (s.entryWith tag).isSome = true ↔ tag ∈ s.waitingTags := by
  rw [entryWith_isSome]
  exact List.mem_map.symm

theorem State.RecordsPaired.ne_zero_of_waiting (paired : s.RecordsPaired) {tag : Tag} (waits : tag ∈ s.waitingTags) : tag ≠ 0 := by
  obtain ⟨e, mem, rfl⟩ := List.mem_map.mp waits
  exact paired.waitingTagNonzero e mem

/-- The tag of a call is in no waiting list (R39). -/
theorem State.RecordsPaired.entryWith_of_call (paired : s.RecordsPaired) {t : SectorId} {n : SlotId} {c : Call}
    (call : (s.slot t n).call? = some c) : s.entryWith c.tag = none := by
  rw [← Option.not_isSome_iff_eq_none, State.entryWith_isSome_iff]
  exact (paired.slotTagNonzero t n c call).2

theorem State.not_holds_iff (s : State) (tag : Tag) : ¬s.Holds tag ↔ s.entryWith tag = none ∧ s.slotWith tag = none := by
  simp [holds_iff, State.tagHeld]

/-- The taking of a frame writes the request queue alone. -/
theorem State.RecordsPaired.afterTaking (paired : s.RecordsPaired) : s.afterTaking.RecordsPaired := { paired with }

/-! ## An entry leaves its list -/

theorem State.setWaiting_setWaiting (s : State) (c : CallClass) (l m : List Waiting) :
    (s.setWaiting c l).setWaiting c m = s.setWaiting c m := by
  cases c <;> rfl

theorem State.waiting_setSlot (s : State) (t : SectorId) (n : SlotId) (x : Slot) (c : CallClass) :
    (s.setSlot t n x).waiting c = s.waiting c := by
  cases c <;> rfl

/-- The entry that no other shares the tag of leaves its list, and those behind it close up (R63). -/
theorem State.removeWaiting_of_unique {c : CallClass} {older newer : List Waiting} {e : Waiting}
    (list : s.waiting c = older ++ e :: newer) (unique : ∀ x ∈ older ++ newer, x.tag ≠ e.tag) :
    s.removeWaiting c e.tag = s.setWaiting c (older ++ newer) := by
  have absent : ∀ x ∈ older, ¬(x.tag == e.tag) = true := fun x hx => by simpa using unique x (List.mem_append_left _ hx)
  rw [State.removeWaiting, list, List.eraseP_append_right _ absent, List.eraseP_cons_of_pos (by simp)]

/-- An entry whose side of its earmark was cleared leaves the same list behind as one that keeps it. -/
theorem State.removeWaiting_setEarmark {older newer : List Waiting} {e : Waiting} (emergency : s.emergency = older ++ e :: newer)
    (unique : ∀ x ∈ older ++ newer, x.tag ≠ e.tag) :
    (s.setEarmark e.tag none).removeWaiting .emergency e.tag = s.setWaiting .emergency (older ++ newer) := by
  rw [State.setEarmark, State.updateEmergency_of_unique _ emergency unique]
  exact (State.removeWaiting_of_unique (e := { e with earmark := none }) rfl unique).trans (State.setWaiting_setWaiting ..)

/-! ## An entry discarded (R83, R84) -/

section
variable {c : CallClass} {older newer : List Waiting} {e : Waiting}

theorem State.RecordsPaired.discardEntry_of_plain (paired : s.RecordsPaired) (list : s.waiting c = older ++ e :: newer)
    (plain : e.earmark = none) : s.discardEntry c e = s.setWaiting c (older ++ newer) := by
  simp only [State.discardEntry, State.dropEarmarkOf, plain]
  exact State.removeWaiting_of_unique list (paired.waiting_tag_ne list)

/-- The slot of a discarded entry keeps vacating, for no one (R111). -/
theorem State.RecordsPaired.discardEntry_of_earmark (paired : s.RecordsPaired) (list : s.waiting c = older ++ e :: newer)
    {t : SectorId} {n : SlotId} {d : Call} {v : Vacate} (earmark : e.earmark = some (t, n)) (slot : s.slot t n = .vacating d v) :
    s.discardEntry c e = (s.setWaiting c (older ++ newer)).setSlot t n (.vacating d { v with beneficiary := none }) := by
  have mem : e ∈ s.waiting c := State.mem_waiting_of_eq list
  obtain rfl := paired.emergency_of_earmark mem earmark
  have beneficiary : v.beneficiary = some e.tag := by
    have sides := (paired.earmarks e mem (t, n)).mp earmark
    rwa [slot] at sides
  simp only [State.discardEntry, State.dropEarmarkOf, earmark, State.dropEarmark, slot, beneficiary]
  exact State.removeWaiting_setEarmark list (paired.waiting_tag_ne list)

end

end Sys2Proof.Machine
end

section
/-! PROOFS. CANCEL and the expiry of a waiting entry (R82 to R85). -/

namespace Sys2Proof.Machine

/-! ## CANCEL -/

section
variable {s : State} {tag : Tag}

theorem decideCancel_of_entry {c : CallClass} {e : Waiting} (nonzero : tag ≠ 0) (found : s.entryWith tag = some (c, e)) :
    decideCancel tag s = (s.discardEntry c e).pushReply (.cancelled tag c e.earmark.isSome) := by
  simp only [decideCancel, if_neg nonzero, found]

theorem decideCancel_of_no_entry (nonzero : tag ≠ 0) (absent : s.entryWith tag = none) :
    decideCancel tag s =
      if (s.slotWith tag).isSome then s.reject .cancel .notWaiting 0 tag else s.reject .cancel .unknownTag 0 tag := by
  simp only [decideCancel, if_neg nonzero, absent]

end

/-- Settles O26: by where the tag is held. -/
theorem cancelOfWaitingEntry : Obligations.CancelOfWaitingEntry := by
  intro s tag takes paired rejected
  have paired' : s.afterTaking.RecordsPaired := paired.afterTaking
  have answer : exec (.cancel (.ok tag)) s = .next (decideCancel tag s.afterTaking) := exec_cancel_takes takes
  refine ⟨?zero, ?call, ?unknown, ?entry⟩
  case zero =>
    rintro rfl
    exact answer
  case call =>
    rintro ⟨t, n, c, call, rfl⟩
    have call' : (s.afterTaking.slot t n).call? = some c := call
    rw [decideCancel_of_no_entry (paired.slotTagNonzero t n c call).1 (paired'.entryWith_of_call call'),
      paired'.slotWith_of_call call'] at answer
    exact answer
  case unknown =>
    intro nonzero unheld
    obtain ⟨no_entry, no_slot⟩ := s.afterTaking.not_holds_iff tag |>.mp unheld
    rw [decideCancel_of_no_entry nonzero no_entry, no_slot] at answer
    exact answer
  case entry =>
    rintro c older e newer list rfl removed answered
    have list' : s.afterTaking.waiting c = older ++ e :: newer := list
    have mem : e ∈ s.afterTaking.waiting c := State.mem_waiting_of_eq list'
    rw [decideCancel_of_entry (paired.waitingTagNonzero e (State.mem_waiting_append mem)) (paired'.entryWith_of_mem mem)] at answer
    refine ⟨fun plain => ?_, fun t n d v earmark slot => ?_⟩
    · rwa [paired'.discardEntry_of_plain list' plain] at answer
    · rwa [paired'.discardEntry_of_earmark list' earmark slot] at answer

/-! ## The expiry of a waiting entry -/

/-- A deadline of a watched condition is delivered once reached, one delivered again by a signal at once (R153, R154). -/
theorem deliverable_iff (w : Watch) (deadline now : Time) :
    deliverable w deadline now = true ↔ w = .signalled ∨ (w = .watched ∧ 0 ≤ signedDiff now deadline) := by
  cases w <;> simp [deliverable, reached]

theorem exec_waitingExpiry_of_due {s : State} {c : CallClass} {e : Waiting} (live : s.inReset = false)
    (found : s.entryWith e.tag = some (c, e))
    (due : e.watch = .signalled ∨ (e.watch = .watched ∧ 0 ≤ signedDiff s.localTime e.deadline)) :
    exec (.waitingExpiry e.tag) s =
      .next (if s.freePlaces = 0 then s.declineWaiting c e.tag else s.expireWaiting c e) := by
  have delivered : deliverable e.watch e.deadline s.localTime = true := (deliverable_iff ..).mpr due
  simp only [exec, execWaitingExpiry, State.live, live, Bool.false_eq_true, if_false, found, delivered, if_true]

/-- A declined expiry is pending for room in the entry with the tag alone (R85). -/
theorem State.RecordsPaired.declineWaiting_eq {s : State} (paired : s.RecordsPaired) {c : CallClass} {older newer : List Waiting}
    {e : Waiting} (list : s.waiting c = older ++ e :: newer) :
    s.declineWaiting c e.tag = s.setWaiting c (older ++ { e with watch := .pendingRoom } :: newer) := by
  have unchanged (l : List Waiting) (other : ∀ x ∈ l, x.tag ≠ e.tag) :
      l.map (fun x => if x.tag = e.tag then { x with watch := .pendingRoom } else x) = l :=
    (List.map_congr_left fun x hx => if_neg (other x hx)).trans (List.map_id' l)
  obtain ⟨old, new⟩ := List.forall_mem_append.mp (paired.waiting_tag_ne list)
  rw [State.declineWaiting, list, List.map_append, List.map_cons, if_pos rfl, unchanged older old, unchanged newer new]

/-- Settles O51: by the room in the action lane, then by the entry's earmark. -/
theorem waitingExpiry : Obligations.WaitingExpiry := by
  intro s c older newer e live paired list due removed
  have mem : e ∈ s.waiting c := State.mem_waiting_of_eq list
  rw [exec_waitingExpiry_of_due live (paired.entryWith_of_mem mem) due]
  refine ⟨fun full => ?_, fun room => ⟨fun plain => ?_, fun t n d v earmark slot => ?_⟩⟩
  · rw [if_pos (s.freePlaces_eq_zero_iff.mpr full), paired.declineWaiting_eq list]
  · rw [if_neg (s.freePlaces_eq_zero_iff.not.mpr (Nat.not_le.mpr room)), State.expireWaiting,
      paired.discardEntry_of_plain list plain]
  · rw [if_neg (s.freePlaces_eq_zero_iff.not.mpr (Nat.not_le.mpr room)), State.expireWaiting,
      paired.discardEntry_of_earmark list earmark slot]
    rfl

end Sys2Proof.Machine
end

section
/-! PROOFS. Freed-slot service (R67 to R71): the candidate of a FREE slot, the grant of the slot to it, and the deferral. -/

namespace Sys2Proof.Machine

variable {s : State} {t : SectorId} {n : SlotId} {c : CallClass} {older newer : List Waiting} {e : Waiting}

/-! ## The candidate (R68, R69) -/

/-- The entry is the oldest of the list of its class that stands for a slot. -/
def State.IsFirst (s : State) (c : CallClass) (stands : Waiting → Prop) (older : List Waiting) (e : Waiting)
    (newer : List Waiting) : Prop :=
  s.waiting c = older ++ e :: newer ∧ stands e ∧ ∀ x ∈ older, ¬stands x

/-- A class passes its guard test in a sector (R2). -/
def State.PassesGuard (s : State) (t : SectorId) (c : CallClass) : Prop := (s.sector t).effectiveGuard c < s.freeCount t

/-- The entry, with those before and behind it in the list of its class, is the candidate for a FREE slot of the sector: no entry of
a higher class stands for it, and it is the first of its own that does (R68, R69). -/
def State.IsCandidate (s : State) (t : SectorId) (c : CallClass) (older : List Waiting) (e : Waiting) (newer : List Waiting) :
    Prop :=
  match c with
  | .emergency => s.IsFirst .emergency (fun e => s.EligibleFor e t) older e newer
  | .priority => (∀ x ∈ s.emergency, ¬s.EligibleFor x t) ∧ s.PassesGuard t .priority ∧
      s.IsFirst .priority (fun e => e.sector = t) older e newer
  | .general => (∀ x ∈ s.emergency, ¬s.EligibleFor x t) ∧
      ¬(s.PassesGuard t .priority ∧ ∃ x ∈ s.priority, x.sector = t) ∧ s.PassesGuard t .general ∧
      s.IsFirst .general (fun e => e.sector = t) older e newer

theorem State.IsCandidate.waiting_eq (h : s.IsCandidate t c older e newer) : s.waiting c = older ++ e :: newer := by
  cases c with
  | emergency => exact h.1
  | priority =>
    obtain ⟨_, _, first⟩ := h
    exact first.1
  | general =>
    obtain ⟨_, _, _, first⟩ := h
    exact first.1

theorem State.find?_waiting_eq_some_iff {stands : Waiting → Prop} {test : Waiting → Bool} (reads : ∀ x, test x = true ↔ stands x) :
    (s.waiting c).find? test = some e ↔ ∃ older newer, s.IsFirst c stands older e newer := by
  simp only [List.find?_eq_some_iff_append, State.IsFirst, Bool.not_eq_true', ← Bool.not_eq_true, reads]
  constructor
  · rintro ⟨holds, older, newer, list, others⟩
    exact ⟨older, newer, list, holds, others⟩
  · rintro ⟨older, newer, list, holds, others⟩
    exact ⟨holds, older, newer, list, others⟩

/-- The oldest entry of a class that names the sector, where the class passes its guard. -/
def State.guardedFirst (s : State) (t : SectorId) (c : CallClass) : Option Waiting :=
  if s.passesGuard c t then (s.waiting c).find? (fun e => decide (e.sector = t)) else none

theorem State.guardedFirst_eq_some_iff : s.guardedFirst t c = some e ↔
    s.PassesGuard t c ∧ ∃ older newer, s.IsFirst c (fun x => x.sector = t) older e newer := by
  rw [State.guardedFirst, Option.ite_none_right_eq_some, State.passesGuard_iff,
    State.find?_waiting_eq_some_iff fun x => decide_eq_true_iff]
  rfl

theorem State.guardedFirst_eq_none_iff : s.guardedFirst t c = none ↔
    ¬(s.PassesGuard t c ∧ ∃ x ∈ s.waiting c, x.sector = t) := by
  simp [State.guardedFirst, State.passesGuard_iff, State.PassesGuard]

/-- The candidate is looked for in one class after another. -/
theorem State.candidate_eq (s : State) (t : SectorId) :
    s.candidate t = (s.emergency.find? (fun e => s.eligible e t)).or
      ((s.guardedFirst t .priority).or (s.guardedFirst t .general)) := by
  have priority : (if s.passesGuard .priority t then s.priority.find? (fun e => decide (e.sector = t)) else none) =
      s.guardedFirst t .priority := rfl
  rw [State.candidate, priority]
  cases s.emergency.find? (fun e => s.eligible e t) with
  | some e => rfl
  | none => cases s.guardedFirst t .priority <;> rfl

theorem State.candidate_eq_some_iff : s.candidate t = some e ↔ ∃ c older newer, s.IsCandidate t c older e newer := by
  have emergency : s.emergency.find? (fun x => s.eligible x t) = some e ↔
      ∃ older newer, s.IsCandidate t .emergency older e newer :=
    State.find?_waiting_eq_some_iff (c := .emergency) fun x => (eligibleFor_iff s x t).symm
  have no_emergency : s.emergency.find? (fun x => s.eligible x t) = none ↔ ∀ x ∈ s.emergency, ¬s.EligibleFor x t := by
    simp [eligibleFor_iff]
  rw [State.candidate_eq, Option.or_eq_some_iff, Option.or_eq_some_iff, emergency, no_emergency,
    State.guardedFirst_eq_some_iff, State.guardedFirst_eq_none_iff, State.guardedFirst_eq_some_iff]
  constructor
  · rintro (⟨older, newer, h⟩ | ⟨clear, ⟨guard, older, newer, h⟩ | ⟨unnamed, guard, older, newer, h⟩⟩)
    · exact ⟨.emergency, older, newer, h⟩
    · exact ⟨.priority, older, newer, clear, guard, h⟩
    · exact ⟨.general, older, newer, clear, unnamed, guard, h⟩
  · rintro ⟨c, older, newer, h⟩
    cases c with
    | emergency => exact .inl ⟨older, newer, h⟩
    | priority =>
      obtain ⟨clear, guard, first⟩ := h
      exact .inr ⟨clear, .inl ⟨guard, older, newer, first⟩⟩
    | general =>
      obtain ⟨clear, unnamed, guard, first⟩ := h
      exact .inr ⟨clear, .inr ⟨unnamed, guard, older, newer, first⟩⟩

theorem State.candidate_eq_none_iff : s.candidate t = none ↔ ∀ c older e newer, ¬s.IsCandidate t c older e newer := by
  rw [Option.eq_none_iff_forall_ne_some]
  simp only [ne_eq, State.candidate_eq_some_iff, not_exists]
  exact ⟨fun h c older e newer => h e c older newer, fun h e c older newer => h c older e newer⟩

/-! ## The grant (R70) -/

/-- The slot granted to an entry, whose list becomes the one given, with a GRANT report (R7, R70). -/
def State.granted (s : State) (t : SectorId) (n : SlotId) (c : CallClass) (e : Waiting) (rest : List Waiting) : State :=
  ((s.setSlot t n (.active { tag := e.tag, cls := c, preemptible := e.preemptible, admitTime := s.localTime,
                             origin := e.sector })).setWaiting c rest).placeAction
    (.grant e.tag (t, n) c (s.localTime - e.arrival))

theorem State.RecordsPaired.callOf_eq (paired : s.RecordsPaired) (mem : e ∈ s.waiting c) :
    s.callOf e =
      { tag := e.tag, cls := c, preemptible := e.preemptible, admitTime := s.localTime, origin := e.sector } := by
  have flag : (!decide (e.cls = .emergency) && e.preemptible) = e.preemptible := by
    by_cases emergency : c = .emergency
    · subst emergency
      simp [(paired.emergencyClass e mem).2]
    · simp [paired.cls_of_mem mem, emergency]
  rw [State.callOf, flag, paired.cls_of_mem mem]

theorem State.RecordsPaired.grant_of_plain (paired : s.RecordsPaired) (list : s.waiting c = older ++ e :: newer)
    (plain : e.earmark = none) (t : SectorId) (n : SlotId) :
    (s.withdraw e).grantWaiting t n e = s.granted t n c e (older ++ newer) := by
  have mem : e ∈ s.waiting c := State.mem_waiting_of_eq list
  have list' : (s.setSlot t n (.active (s.callOf e))).waiting c = older ++ e :: newer := (State.waiting_setSlot ..).trans list
  rw [State.withdraw, plain, State.grantWaiting, paired.cls_of_mem mem,
    State.removeWaiting_of_unique list' (paired.waiting_tag_ne list), paired.callOf_eq mem]
  rfl

/-- The preemption made for an entry is withdrawn before its grant (R70, R103). -/
theorem State.RecordsPaired.grant_of_earmark (paired : s.RecordsPaired) (list : s.waiting c = older ++ e :: newer)
    {u : SectorId} {m : SlotId} {d : Call} {v : Vacate} (earmark : e.earmark = some (u, m)) (slot : s.slot u m = .vacating d v)
    (t : SectorId) (n : SlotId) :
    (s.withdraw e).grantWaiting t n e =
      ((s.setSlot u m (.active d)).placeAction (.withdraw d.tag (u, m))).granted t n c e (older ++ newer) := by
  have mem : e ∈ s.waiting c := State.mem_waiting_of_eq list
  obtain rfl := paired.emergency_of_earmark mem earmark
  have call : (s.withdraw e).callOf e = s.callOf e := congrArg (fun now => { s.callOf e with admitTime := now })
    (s.withdraw_fixed e).localTime
  rw [State.grantWaiting, call, paired.callOf_eq mem, paired.cls_of_mem mem]
  simp only [State.withdraw, earmark, slot]
  exact congrArg (fun x : State => x.placeAction _) (State.removeWaiting_setEarmark
    (s := ((s.setSlot u m (.active d)).placeAction (.withdraw d.tag (u, m))).setSlot t n _) list (paired.waiting_tag_ne list))

/-! ## The service of one slot (R67, R71) -/

/-- A slot that is not FREE, or in a sector that is not OPEN, is passed over (R67). -/
theorem State.serveSlot_of_passed_over (h : s.slot t n ≠ .free ∨ (s.sector t).state ≠ .opened) :
    s.serveSlot t n = ⟨s, false⟩ :=
  if_neg fun both => h.elim (fun other => other (of_decide_eq_true both.1)) fun other => other (of_decide_eq_true both.2)

section
variable (free : s.slot t n = .free) (opened : (s.sector t).state = .opened)
include free opened

theorem State.serveSlot_of_no_candidate (none_stands : s.candidate t = none) : s.serveSlot t n = ⟨s, false⟩ := by
  simp [State.serveSlot, Slot.isFree, State.isOpen, free, opened, none_stands]

/-- A candidate is granted the slot where the action lane has the places that its reports need, and deferred otherwise (R71). -/
theorem State.serveSlot_of_candidate (stands : s.candidate t = some e) :
    (s.link.actionLane.length + placesNeeded e ≤ 48 → s.serveSlot t n = ⟨(s.withdraw e).grantWaiting t n e, false⟩) ∧
    (48 < s.link.actionLane.length + placesNeeded e → s.serveSlot t n = ⟨{ s with serviceDeferred := true }, true⟩) := by
  have served : s.serveSlot t n = if s.freePlaces < placesNeeded e then ⟨{ s with serviceDeferred := true }, true⟩
      else ⟨(s.withdraw e).grantWaiting t n e, false⟩ := by
    simp [State.serveSlot, Slot.isFree, State.isOpen, free, opened, stands]
  have places : s.freePlaces = 48 - s.link.actionLane.length := rfl
  have some_needed : 1 ≤ placesNeeded e := by unfold placesNeeded; split <;> omega
  rw [served]
  exact ⟨fun room => if_neg (by omega), fun full => if_pos (by omega)⟩

end

/-- Settles O22: by the candidate of the slot, then by its earmark and the room in the action lane. -/
theorem freedSlotService : Obligations.FreedSlotService := by
  refine ⟨fun _ _ => rfl, ⟨fun _ => rfl, fun u t n => State.serveSlot_of_passed_over, fun _ _ _ => rfl⟩, ?_⟩
  intro s t n paired free opened first eligible names priorityPasses generalPasses chosen
  have chosen_iff : ∀ c older e newer, chosen c older e newer ↔ s.IsCandidate t c older e newer := by
    intro c older e newer
    cases c <;> rfl
  refine ⟨fun c older e newer choice => ?_, fun no_choice => ?_⟩
  · have candidate := (chosen_iff c older e newer).mp choice
    have list := candidate.waiting_eq
    obtain ⟨granted, deferred⟩ :=
      State.serveSlot_of_candidate free opened (State.candidate_eq_some_iff.mpr ⟨c, older, newer, candidate⟩)
    refine ⟨fun plain => ?_, fun u m d v earmark slot => ?_⟩
    · have one : placesNeeded e = 1 := by simp [placesNeeded, plain]
      rw [one] at granted deferred
      rw [paired.grant_of_plain list plain] at granted
      exact ⟨fun room => granted room, fun full => deferred (by omega)⟩
    · have two : placesNeeded e = 2 := by simp [placesNeeded, earmark]
      rw [two] at granted deferred
      rw [paired.grant_of_earmark list earmark slot] at granted
      exact ⟨fun room => granted (by omega), fun full => deferred (by omega)⟩
  · exact State.serveSlot_of_no_candidate free opened
      (State.candidate_eq_none_iff.mpr fun c older e newer => (chosen_iff c older e newer).not.mp (no_choice c older e newer))

end Sys2Proof.Machine
end

section
/-! PROOFS. RELEASE of an ACTIVE or STUCK slot (R78 to R80): what the slot, its sector and the reply become. -/

namespace Sys2Proof.Machine

variable {s : State} {t : SectorId} {n : SlotId}

/-! ## A slot that loses its call (R8, R79) -/

theorem Slot.occupied_iff (x : Slot) : x.occupied = true ↔ ∃ c, x.call? = some c := Option.isSome_iff_exists

/-- A slot that loses its call takes one off its sector's occupancy (R6). -/
theorem State.occupancy_setSlot_of_emptied {x : Slot} (full : (s.slot t n).occupied = true) (empty : x.occupied = false) :
    (s.setSlot t n x).occupancy t = s.occupancy t - 1 := by
  have inside : n.val < (s.slots.get t).toList.length := by rw [(s.slots.get t).size_eq]; exact n.isLt
  have record : ((s.slots.get t).toList[n.val]).occupied = true := full
  have slots : (s.setSlot t n x).slots.get t = (s.slots.get t).set n x := by simp
  rw [State.occupancy, State.countSlots, slots, Table.set, List.countP_set inside, record, empty]
  rfl

/-- A sector with a call in a slot is OPEN or DRAINING (R4, R19). -/
theorem State.SlotsLawful.opened_or_draining (lawful : s.SlotsLawful) (full : (s.slot t n).occupied = true) :
    (s.sector t).state = .opened ∨ (s.sector t).state = .draining := by
  obtain ⟨c, call⟩ := (Slot.occupied_iff _).mp full
  have not_empty : s.occupancy t ≠ 0 := fun none_occupied => by
    simp [State.call?_of_occupancy_zero none_occupied] at call
  cases state : (s.sector t).state with
  | disabled => exact absurd (lawful.empty t (.inl state)) not_empty
  | opened => exact .inl rfl
  | draining => exact .inr rfl
  | drained => exact absurd (lawful.empty t (.inr state)) not_empty

/-- The slot record that a released slot of an enabled sector becomes, by its capacity (R8). -/
def State.emptied (s : State) (t : SectorId) (n : SlotId) : State :=
  s.setSlot t n (if n.val < (s.sector t).capacity then .free else .closed)

theorem State.setSlot_releasedSlot (enabled : (s.sector t).state ≠ .disabled) :
    s.setSlot t n (s.releasedSlot t n) = s.emptied t n := by
  simp [State.releasedSlot, State.emptied, enabled]

theorem State.freeSlot_of_opened (opened : (s.sector t).state = .opened) :
    s.freeSlot t n = ((s.emptied t n).serveSlot t n).state := by
  simp [State.freeSlot, State.setSlot_releasedSlot, opened]

/-- A slot at or above the capacity of its sector becomes CLOSED, so no service follows (R8, R79). -/
theorem State.freeSlot_of_opened_above (opened : (s.sector t).state = .opened) (above : (s.sector t).capacity ≤ n.val) :
    s.freeSlot t n = s.emptied t n := by
  have closed : (s.emptied t n).slot t n ≠ .free := by simp [State.emptied, Nat.not_lt.mpr above]
  rw [State.freeSlot_of_opened opened, State.serveSlot_of_passed_over (.inl closed)]

theorem State.freeSlot_of_draining (draining : (s.sector t).state = .draining) :
    s.freeSlot t n = (s.emptied t n).drainedTest t := by
  simp [State.freeSlot, State.setSlot_releasedSlot, draining]

theorem State.occupancy_emptied (full : (s.slot t n).occupied = true) : (s.emptied t n).occupancy t = s.occupancy t - 1 :=
  State.occupancy_setSlot_of_emptied full (by split <;> rfl)

theorem State.freeSlot_of_draining_with_calls (draining : (s.sector t).state = .draining) (full : (s.slot t n).occupied = true)
    (calls : 1 < s.occupancy t) : s.freeSlot t n = s.emptied t n := by
  rw [State.freeSlot_of_draining draining, State.drainedTest, State.occupancy_emptied full]
  exact if_neg fun both => Nat.sub_ne_zero_of_lt calls both.2

/-- The last call of a DRAINING sector completes its draining (R17). -/
theorem State.freeSlot_of_draining_last (draining : (s.sector t).state = .draining) (full : (s.slot t n).occupied = true)
    (last : s.occupancy t = 1) :
    s.freeSlot t n = ((s.emptied t n).setSector t { s.sector t with state := .drained }).offerStatus (.drained t) := by
  rw [State.freeSlot_of_draining draining, State.drainedTest, State.occupancy_emptied full, last]
  exact if_pos ⟨draining, rfl⟩

/-! ## RELEASE -/

section
variable {tag : Tag}

theorem decideRelease_of_no_slot (nonzero : tag ≠ 0) (absent : s.slotWith tag = none) :
    decideRelease tag s =
      if (s.entryWith tag).isSome then s.reject .release .notActive 0 tag else s.reject .release .unknownTag 0 tag := by
  simp only [decideRelease, if_neg nonzero, absent]

/-- A call that no preemption order stands against: its slot is ACTIVE or STUCK. -/
theorem decideRelease_of_call {c : Call} (nonzero : c.tag ≠ 0) (found : s.slotWith c.tag = some (t, n))
    (slot : s.slot t n = .active c ∨ s.slot t n = .stuck c) :
    decideRelease c.tag s = (s.freeSlot t n).pushReply (.released c.tag (t, n) (s.slot t n).code) := by
  obtain slot | slot := slot <;> simp only [decideRelease, if_neg nonzero, found, slot]

end

/-- Settles O24: by where the tag is held, then by the state of the slot's sector. -/
theorem releaseOfActiveOrStuckSlot : Obligations.ReleaseOfActiveOrStuckSlot := by
  intro s tag takes paired lawful rejected
  have paired' : s.afterTaking.RecordsPaired := paired.afterTaking
  have answer : exec (.release (.ok tag)) s = .next (decideRelease tag s.afterTaking) := exec_release_takes takes
  refine ⟨?zero, ?waiting, ?unknown, ?call⟩
  case zero =>
    rintro rfl
    exact answer
  case waiting =>
    intro waits
    rw [decideRelease_of_no_slot (paired.ne_zero_of_waiting waits) (paired'.slotWith_of_waiting waits),
      if_pos ((s.afterTaking.entryWith_isSome_iff tag).mpr waits)] at answer
    exact answer
  case unknown =>
    intro nonzero unheld
    obtain ⟨no_entry, no_slot⟩ := s.afterTaking.not_holds_iff tag |>.mp unheld
    rw [decideRelease_of_no_slot nonzero no_slot, no_entry] at answer
    exact answer
  case call =>
    rintro t n c slot rfl r emptied former answered
    have call : (s.afterTaking.slot t n).call? = some c := by
      obtain slot | slot := slot <;> exact congrArg Slot.call? slot
    have full : (s.afterTaking.slot t n).occupied = true := (Slot.occupied_iff _).mpr ⟨c, call⟩
    have code : (s.afterTaking.slot t n).code = former := by
      obtain slot | slot := slot <;> simp only [former, slot] <;> exact congrArg Slot.code slot
    rw [decideRelease_of_call (paired.slotTagNonzero t n c call).1 (paired'.slotWith_of_call call) slot, code] at answer
    have becomes : ∀ u, s.afterTaking.freeSlot t n = u → answered u := fun u h => h ▸ answer
    obtain opened | draining := lawful.opened_or_draining full
    · exact .inl ⟨opened, fun _ => becomes _ (State.freeSlot_of_opened opened),
        fun above => becomes _ (State.freeSlot_of_opened_above opened above)⟩
    · exact .inr ⟨draining, fun calls => becomes _ (State.freeSlot_of_draining_with_calls draining full calls),
        fun last => becomes _ (State.freeSlot_of_draining_last draining full last)⟩

end Sys2Proof.Machine
end

section
/-! SUPPORT. The victims of a sector (R90, R91): which calls are eligible, which of them is taken first, and the search for one over
the candidate sectors (R92). -/

namespace Sys2Proof.Machine

variable {s : State} {esc : Bool} {t : SectorId} {n m : SlotId} {c d : Call}

/-! ## The eligible calls of a sector (R90, R91) -/

/-- A call that may be a victim at a stage: stage 1 takes preemptible GENERAL calls, stage 2 every GENERAL call and preemptible
PRIORITY calls (R91). -/
def Call.VictimAt (c : Call) (escalated : Bool) : Prop :=
  c.cls = .general ∧ (escalated = true ∨ c.preemptible = true) ∨ c.cls = .priority ∧ escalated = true ∧ c.preemptible = true

/-- The slot holds an eligible victim for a stage: an ACTIVE call below the capacity of an OPEN sector (R90 to R92). -/
def State.HoldsVictim (s : State) (escalated : Bool) (t : SectorId) (n : SlotId) (c : Call) : Prop :=
  s.slot t n = .active c ∧ n.val < (s.sector t).capacity ∧ (s.sector t).state = .opened ∧ c.VictimAt escalated

theorem generalVictim_iff : generalVictim esc c = true ↔ c.VictimAt esc ∧ c.cls = .general := by
  by_cases general : c.cls = .general <;> simp [generalVictim, Call.VictimAt, general]

theorem priorityVictim_iff : priorityVictim esc c = true ↔ c.VictimAt esc ∧ c.cls = .priority := by
  by_cases priority : c.cls = .priority <;> simp [priorityVictim, Call.VictimAt, priority]

/-- No stage takes an EMERGENCY call (R90). -/
theorem Call.VictimAt.general_or_priority (victim : c.VictimAt esc) : c.cls = .general ∨ c.cls = .priority :=
  victim.imp And.left And.left

theorem State.mem_victims {p : Call → Bool} :
    (n, c) ∈ s.victims t p ↔ s.slot t n = .active c ∧ n.val < (s.sector t).capacity ∧ p c = true := by
  rw [State.victims, List.mem_filterMap]
  constructor
  · rintro ⟨k, -, listed⟩
    split at listed
    next a slot =>
      split at listed
      next test =>
        obtain ⟨rfl, rfl⟩ : k = n ∧ a = c := by simpa using listed
        exact ⟨slot, test⟩
      next => cases listed
    next => cases listed
  · rintro ⟨slot, below, test⟩
    exact ⟨n, mem_allSlots n, by simp [slot, below, test]⟩

/-- The victims of a sector are listed in slot order. -/
theorem State.victims_pairwise (s : State) (t : SectorId) (p : Call → Bool) :
    (s.victims t p).Pairwise (fun x y => x.1 < y.1) := by
  have ordered : allSlots.Pairwise (· < ·) := by decide
  have in_order (f : SlotId → Option (SlotId × Call)) (own : ∀ k x, f k = some x → x.1 = k) :
      (allSlots.filterMap f).Pairwise (fun x y => x.1 < y.1) :=
    List.pairwise_filterMap.mpr (ordered.imp fun less x hx y hy => by rwa [own _ x hx, own _ y hy])
  refine in_order _ fun k x listed => ?_
  split at listed
  · split at listed
    · exact congrArg Prod.fst (Option.some.inj listed).symm
    · cases listed
  · cases listed

/-! ## The youngest call (R91, items 2 and 3) -/

/-- The first call is taken before the second by age, or by slot where the ages are equal. -/
def State.YoungerThan (s : State) (n : SlotId) (c : Call) (m : SlotId) (d : Call) : Prop :=
  s.callAge c < s.callAge d ∨ s.callAge c = s.callAge d ∧ n ≤ m

theorem State.YoungerThan.antisymm (h : s.YoungerThan n c m d) (k : s.YoungerThan m d n c) : n = m := by
  obtain h | ⟨same, h⟩ := h <;> obtain k | ⟨same', k⟩ := k
  · exact absurd h k.asymm
  · exact absurd same' h.ne'
  · exact absurd same k.ne'
  · exact le_antisymm h k

theorem State.youngest_eq_none_iff {l : List (SlotId × Call)} : s.youngest l = none ↔ l = [] := by
  cases l with
  | nil => simp [State.youngest]
  | cons x rest =>
    rw [State.youngest]
    split
    · simp
    · split <;> simp

/-- Of calls listed in slot order the youngest is one, and none of them is taken before it. -/
theorem State.youngest_first {l : List (SlotId × Call)} {x : SlotId × Call} (ordered : l.Pairwise (fun y z => y.1 < z.1))
    (found : s.youngest l = some x) : x ∈ l ∧ ∀ y ∈ l, s.YoungerThan x.1 x.2 y.1 y.2 := by
  induction l generalizing x with
  | nil => cases found
  | cons a rest ih =>
    obtain ⟨lowest, ordered⟩ := List.pairwise_cons.mp ordered
    have itself : s.YoungerThan a.1 a.2 a.1 a.2 := .inr ⟨rfl, le_rfl⟩
    rw [State.youngest] at found
    split at found
    next none_left =>
      obtain rfl := State.youngest_eq_none_iff.mp none_left
      obtain rfl := Option.some.inj found
      simpa using itself
    next y best =>
      obtain ⟨listed, first⟩ := ih ordered best
      split at found
      next younger =>
        obtain rfl := Option.some.inj found
        exact ⟨List.mem_cons_of_mem _ listed, List.forall_mem_cons.mpr ⟨.inl younger, first⟩⟩
      next not_younger =>
        obtain rfl := Option.some.inj found
        refine ⟨List.mem_cons_self, List.forall_mem_cons.mpr ⟨itself, fun z hz => ?_⟩⟩
        have below : a.1 ≤ z.1 := (lowest z hz).le
        have older : s.callAge y.2 ≤ s.callAge z.2 := (first z hz).elim le_of_lt fun same => same.1.le
        exact (lt_or_eq_of_le ((not_lt.mp not_younger).trans older)).imp_right (⟨·, below⟩)

/-! ## The victim of a sector (R91) -/

/-- The first call is taken before the second: by class, then by age, then by slot (R91). -/
def State.Precedes (s : State) (n : SlotId) (c : Call) (m : SlotId) (d : Call) : Prop :=
  (c.cls = .general ∧ d.cls = .priority) ∨ (c.cls = d.cls ∧ s.YoungerThan n c m d)

theorem State.Precedes.antisymm (h : s.Precedes n c m d) (k : s.Precedes m d n c) : n = m := by
  obtain ⟨hc, hd⟩ | ⟨same, h⟩ := h <;> obtain ⟨kd, kc⟩ | ⟨same', k⟩ := k
  · simp [hc] at kc
  · simp [hc, hd] at same'
  · simp [kc, kd] at same
  · exact h.antisymm k

/-- The victim of an OPEN sector is eligible, and no eligible call precedes it. -/
theorem State.victimIn_first (opened : (s.sector t).state = .opened) (found : s.victimIn esc t = some (n, c)) :
    s.HoldsVictim esc t n c ∧ ∀ m d, s.HoldsVictim esc t m d → s.Precedes n c m d := by
  rw [State.victimIn] at found
  split at found
  next v general =>
    obtain rfl := Option.some.inj found
    obtain ⟨listed, first⟩ := State.youngest_first (s.victims_pairwise t _) general
    obtain ⟨slot, below, test⟩ := State.mem_victims.mp listed
    obtain ⟨victim, cls⟩ := generalVictim_iff.mp test
    refine ⟨⟨slot, below, opened, victim⟩, fun m d ⟨slot', below', _, victim'⟩ => ?_⟩
    obtain cls' | cls' := victim'.general_or_priority
    · exact .inr ⟨cls.trans cls'.symm,
        first (m, d) (State.mem_victims.mpr ⟨slot', below', generalVictim_iff.mpr ⟨victim', cls'⟩⟩)⟩
    · exact .inl ⟨cls, cls'⟩
  next no_general =>
    have none_general := State.youngest_eq_none_iff.mp no_general
    obtain ⟨listed, first⟩ := State.youngest_first (s.victims_pairwise t _) found
    obtain ⟨slot, below, test⟩ := State.mem_victims.mp listed
    obtain ⟨victim, cls⟩ := priorityVictim_iff.mp test
    refine ⟨⟨slot, below, opened, victim⟩, fun m d ⟨slot', below', _, victim'⟩ => ?_⟩
    obtain cls' | cls' := victim'.general_or_priority
    · have listed' := State.mem_victims.mpr ⟨slot', below', generalVictim_iff.mpr ⟨victim', cls'⟩⟩
      simp [none_general] at listed'
    · exact .inr ⟨cls.trans cls'.symm,
        first (m, d) (State.mem_victims.mpr ⟨slot', below', priorityVictim_iff.mpr ⟨victim', cls'⟩⟩)⟩

/-- An OPEN sector with an eligible call has a victim. -/
theorem State.victimIn_ne_none (held : s.HoldsVictim esc t n c) : s.victimIn esc t ≠ none := by
  intro no_victim
  obtain ⟨slot, below, -, victim⟩ := held
  rw [State.victimIn] at no_victim
  split at no_victim
  next => cases no_victim
  next no_general =>
    obtain cls | cls := victim.general_or_priority
    · have listed := State.mem_victims.mpr ⟨slot, below, generalVictim_iff.mpr ⟨victim, cls⟩⟩
      simp [State.youngest_eq_none_iff.mp no_general] at listed
    · have listed := State.mem_victims.mpr ⟨slot, below, priorityVictim_iff.mpr ⟨victim, cls⟩⟩
      simp [State.youngest_eq_none_iff.mp no_victim] at listed

theorem State.victimIn_eq_none_iff (opened : (s.sector t).state = .opened) :
    s.victimIn esc t = none ↔ ∀ n c, ¬s.HoldsVictim esc t n c := by
  refine ⟨fun h n c held => State.victimIn_ne_none held h, fun h => ?_⟩
  rw [Option.eq_none_iff_forall_ne_some]
  exact fun ⟨n, c⟩ found => h n c (State.victimIn_first opened found).1

/-- The eligible call that precedes every other is the victim of its sector. -/
theorem State.victimIn_of_first (held : s.HoldsVictim esc t n c) (first : ∀ m d, s.HoldsVictim esc t m d → s.Precedes n c m d) :
    s.victimIn esc t = some (n, c) := by
  obtain ⟨⟨m, d⟩, found⟩ := Option.ne_none_iff_exists'.mp (State.victimIn_ne_none held)
  have ⟨slot, _, opened, _⟩ := held
  obtain ⟨other, before⟩ := State.victimIn_first opened found
  obtain rfl : n = m := (first m d other).antisymm (before n c held)
  obtain rfl : c = d := Slot.active.inj (slot.symm.trans other.1)
  exact found

/-! ## The search over the candidate sectors (R92) -/

section
variable {e : Waiting}

/-- What the search for an entry finds in one candidate sector. -/
def State.victimFor (s : State) (e : Waiting) (t : SectorId) : Option (SectorId × SlotId × Call) :=
  if s.isOpen t then (s.victimIn e.escalated t).map (fun v => (t, v.1, v.2)) else none

theorem State.searchVictim_eq (s : State) (e : Waiting) : s.searchVictim e = (s.candidateSectors e).findSome? (s.victimFor e) :=
  rfl

theorem State.victimFor_eq_none_iff : s.victimFor e t = none ↔ ∀ n c, ¬s.HoldsVictim e.escalated t n c := by
  by_cases opened : (s.sector t).state = .opened
  · rw [← State.victimIn_eq_none_iff opened]
    simp [State.victimFor, State.isOpen, opened]
  · simp [State.victimFor, State.isOpen, State.HoldsVictim, opened]

theorem State.searchVictim_eq_none_iff :
    s.searchVictim e = none ↔ ∀ t ∈ s.candidateSectors e, ∀ n c, ¬s.HoldsVictim e.escalated t n c := by
  rw [State.searchVictim_eq, List.findSome?_eq_none_iff]
  exact forall₂_congr fun t _ => State.victimFor_eq_none_iff

/-- The search uses the first candidate sector that holds an eligible call. -/
theorem State.searchVictim_of_first {before later : List SectorId} (sectors : s.candidateSectors e = before ++ t :: later)
    (passed : ∀ u ∈ before, ∀ m d, ¬s.HoldsVictim e.escalated u m d) (held : s.HoldsVictim e.escalated t n c)
    (first : ∀ m d, s.HoldsVictim e.escalated t m d → s.Precedes n c m d) : s.searchVictim e = some (t, n, c) := by
  have found : s.victimFor e t = some (t, n, c) := by
    simp [State.victimFor, State.isOpen, held.2.2.1, State.victimIn_of_first held first]
  rw [State.searchVictim_eq, List.findSome?_eq_some_iff]
  exact ⟨before, t, later, sectors, found, fun u hu => State.victimFor_eq_none_iff.mpr (passed u hu)⟩

/-- The search reads sector records, slots and local time alone. -/
theorem State.searchVictim_congr {s u : State} (sectors : u.sectors = s.sectors) (slots : u.slots = s.slots)
    (time : u.localTime = s.localTime) (e : Waiting) : u.searchVictim e = s.searchVictim e := by
  have age : u.callAge = s.callAge := congrArg (fun now c => signedDiff now (Call.admitTime c)) time
  have youngest : u.youngest = s.youngest := funext fun l => by
    induction l with
    | nil => rfl
    | cons x rest ih => rw [State.youngest, State.youngest, ih, age]
  have sector : u.sector = s.sector := funext fun t => State.sector_congr sectors t
  have slot : u.slot = s.slot := funext fun t => funext fun n => State.slot_congr slots t n
  unfold State.searchVictim State.candidateSectors State.isOpen State.victimIn State.victims
  rw [sector, slot, youngest]

end

/-- Settles O20: the eligible calls of the statement are those that the search reads. -/
theorem searchForAVictim : Obligations.SearchForAVictim := by
  intro s e candidates eligible age precedes
  exact ⟨fun before t later n c sectors passed held first => State.searchVictim_of_first sectors passed held first,
    State.searchVictim_eq_none_iff.mpr⟩

end Sys2Proof.Machine
end

section
/-! PROOFS. The victim-search pass (R93, R94) and the start of a preemption (R97). -/

namespace Sys2Proof.Machine

variable {s : State} {older newer : List Waiting} {e : Waiting} {t : SectorId} {n : SlotId} {c : Call}

/-! ## The entries a pass goes by (R93) -/

/-- A pass goes by an entry that holds an earmark or has no victim (R93). -/
def State.PassesBy (s : State) (e : Waiting) : Prop := e.earmark = none → s.searchVictim e = none

theorem passWalk_of_passed_by {l rest : List Waiting} (passed : ∀ e ∈ l, s.PassesBy e) :
    passWalk (l ++ rest) s = passWalk rest s := by
  induction l with
  | nil => rfl
  | cons e l ih =>
    obtain ⟨first, others⟩ := List.forall_mem_cons.mp passed
    obtain ⟨_, h⟩ | ⟨_, _, h⟩ | ⟨_, plain, found, _, _⟩ | ⟨_, _, _, plain, found, _, _⟩ := passWalk_cons_cases e (l ++ rest) s
    · exact h.trans (ih others)
    · exact h.trans (ih others)
    · simp [first plain] at found
    · simp [first plain] at found

/-! ## The start of a preemption (R97) -/

/-- A VACATING slot is no victim, so a search that finds none still finds none once a slot is VACATING (R90). -/
theorem State.searchVictim_setSlot_vacating (none_found : s.searchVictim e = none) (t : SectorId) (n : SlotId) (c : Call)
    (v : Vacate) : (s.setSlot t n (.vacating c v)).searchVictim e = none := by
  rw [State.searchVictim_eq_none_iff] at none_found ⊢
  rintro u candidate m d ⟨slot, below, opened, victim⟩
  rw [State.slot_setSlot] at slot
  split at slot
  · cases slot
  · exact none_found u candidate m d ⟨slot, below, opened, victim⟩

/-- The vacate part of a slot preempted for an entry: attempt 1, with a deadline to come (R97). -/
def State.firstOrder (s : State) (e : Waiting) : Vacate :=
  { attempt := .first, deadline := after s.localTime s.settings.vacateTimeout, watch := .watched, beneficiary := some e.tag }

/-- The state in which a preemption for an entry has been started, with the emergency list written out (R97). -/
def State.preempted (s : State) (t : SectorId) (n : SlotId) (c : Call) (older : List Waiting) (e : Waiting)
    (newer : List Waiting) : State :=
  ((s.setSlot t n (.vacating c (s.firstOrder e))).setWaiting .emergency
      (older ++ { e with earmark := some (t, n) } :: newer)).placeAction (.preempt c.tag (t, n) .first)

theorem State.RecordsPaired.startPreemption_eq (paired : s.RecordsPaired) (emergency : s.emergency = older ++ e :: newer)
    (t : SectorId) (n : SlotId) (c : Call) : s.startPreemption e t n c = s.preempted t n c older e newer := by
  rw [State.startPreemption, State.setEarmark,
    State.updateEmergency_of_unique (s := s.setSlot t n _) _ emergency (paired.tag_ne emergency)]
  rfl

/-- A search after a preemption finds what it would find after the change of the slot alone. -/
theorem State.preempted_searchVictim (s : State) (t : SectorId) (n : SlotId) (c : Call) (older : List Waiting) (e : Waiting)
    (newer : List Waiting) (x : Waiting) :
    (s.preempted t n c older e newer).searchVictim x = (s.setSlot t n (.vacating c (s.firstOrder e))).searchVictim x :=
  State.searchVictim_congr (s := s.setSlot t n _) (u := s.preempted t n c older e newer) rfl rfl rfl x

/-- An entry that a pass goes by is gone by again after a preemption has been started for another. -/
theorem State.PassesBy.preempted {x : Waiting} (passed : s.PassesBy x) : (s.preempted t n c older e newer).PassesBy x :=
  fun plain => (s.preempted_searchVictim t n c older e newer x).trans
    (State.searchVictim_setSlot_vacating (passed plain) t n c (s.firstOrder e))

/-! ## The pass (R93, R94) -/

/-- The state in which a pass begins its walk: its mark is cleared (R94). -/
def State.unmarked (s : State) : State := { s with passDeferred := false }

theorem State.unmarked_searchVictim (s : State) (e : Waiting) : s.unmarked.searchVictim e = s.searchVictim e :=
  State.searchVictim_congr (s := s) (u := s.unmarked) rfl rfl rfl e

theorem State.PassesBy.unmarked (passed : s.PassesBy e) : s.unmarked.PassesBy e :=
  fun plain => (s.unmarked_searchVictim e).trans (passed plain)

theorem State.pass_of_all_passed_by (passed : ∀ e ∈ s.emergency, s.PassesBy e) : s.pass = s.unmarked := by
  have walk := passWalk_of_passed_by (rest := []) fun e he => (passed e he).unmarked
  rwa [List.append_nil] at walk

/-- A pass comes to the first entry that it does not go by. -/
theorem State.pass_of_older_passed_by {rest : List Waiting} (emergency : s.emergency = older ++ rest)
    (passed : ∀ x ∈ older, s.PassesBy x) : s.pass = passWalk rest s.unmarked := by
  have walk : s.pass = passWalk s.emergency s.unmarked := rfl
  rw [walk, emergency, passWalk_of_passed_by fun x hx => (passed x hx).unmarked]

/-- The entry a preemption has been started for is gone by, and so are the older ones: a new pass comes to the newer ones. -/
theorem State.pass_preempted (passed : ∀ x ∈ older, s.PassesBy x) :
    (s.preempted t n c older e newer).pass = passWalk newer (s.unmarked.preempted t n c older e newer) := by
  have list : (s.preempted t n c older e newer).emergency = (older ++ [{ e with earmark := some (t, n) }]) ++ newer := by
    simp [State.preempted]
  refine State.pass_of_older_passed_by list (List.forall_mem_append.mpr ⟨fun x hx => (passed x hx).preempted, fun x hx => ?_⟩)
  obtain rfl := List.mem_singleton.mp hx
  exact fun plain => nomatch plain

/-- A pass serves the oldest entry without an earmark that has a victim, where there is a place for its report (R93). -/
theorem State.pass_of_victim (emergency : s.emergency = older ++ e :: newer) (passed : ∀ x ∈ older, s.PassesBy x)
    (plain : e.earmark = none) (found : s.searchVictim e = some (t, n, c)) :
    s.pass = if s.freePlaces = 0 then { s with passDeferred := true }
      else passWalk newer (s.unmarked.startPreemption e t n c) := by
  have found' : s.unmarked.searchVictim e = some (t, n, c) := (s.unmarked_searchVictim e).trans found
  rw [State.pass_of_older_passed_by emergency passed, passWalk, plain, found']
  rfl

/-- Settles O21: the older entries have no victim after the preemption either, and the entry served holds an earmark, so a new pass
comes to where this one goes on. -/
theorem passServesOldestFirst : Obligations.PassServesOldestFirst := by
  intro s paired
  refine ⟨State.pass_of_all_passed_by, fun older e newer t n c emergency passed plain found => ?_⟩
  have served := State.pass_of_victim emergency passed plain found
  refine ⟨fun full => ?_, fun room => ?_⟩
  · rwa [if_pos (s.freePlaces_eq_zero_iff.mpr full)] at served
  · have paired' : s.unmarked.RecordsPaired := { paired with }
    rw [if_neg (s.freePlaces_eq_zero_iff.not.mpr (Nat.not_le.mpr room)),
      paired'.startPreemption_eq (older := older) (newer := newer) emergency] at served
    exact served.trans (State.pass_preempted passed).symm

end Sys2Proof.Machine
end

section
/-! PROOFS. Two expiries of the sweep: an emergency entry's escalation point (R109) and a vacate deadline (R105 to R107). -/

namespace Sys2Proof.Machine

variable {s : State} {older newer : List Waiting} {e : Waiting} {t : SectorId} {n : SlotId} {c : Call} {v : Vacate}

/-! ## Escalation (R109) -/

/-- The entry of the emergency list with a tag is the one that carries it (R39). -/
theorem State.RecordsPaired.entryIn_emergency (paired : s.RecordsPaired) (emergency : s.emergency = older ++ e :: newer) :
    s.entryIn .emergency e.tag = some e := by
  rw [State.entryIn, List.find?_eq_some_iff_append]
  exact ⟨by simp, older, newer, emergency, fun x hx => by simpa using paired.tag_ne emergency x (List.mem_append_left _ hx)⟩

theorem exec_escalation_of_due {p : Time} (live : s.inReset = false) (found : s.entryIn .emergency e.tag = some e)
    (point : e.escalationPoint = some p) (due : 0 ≤ signedDiff s.localTime p) :
    exec (.escalation e.tag) s = .next (s.escalate e) := by
  have delivered : reached p s.localTime = true := decide_eq_true due
  simp only [exec, execEscalation, State.live, live, Bool.false_eq_true, if_false, found, point, delivered, if_true]

/-- Settles O52: the flag is written in the entry with the tag alone, and an earmark decides on the pass. -/
theorem escalation : Obligations.Escalation := by
  intro s older newer e p live paired emergency point due m
  have escalated : s.escalate e = m.passIf e.earmark.isNone := by
    rw [State.escalate, State.updateEmergency_of_unique _ emergency (paired.tag_ne emergency)]
  rw [exec_escalation_of_due live (paired.entryIn_emergency emergency) point due, escalated]
  refine ⟨fun plain => ?_, fun earmarked => ?_⟩
  · rw [plain]
    rfl
  · rw [Option.isNone_eq_false_iff.mpr (Option.isSome_iff_ne_none.mpr earmarked)]
    rfl

/-! ## The expiry of a vacate deadline (R105 to R107) -/

theorem exec_vacateExpiry_of_due (live : s.inReset = false) (slot : s.slot t n = .vacating c v)
    (due : v.watch = .signalled ∨ (v.watch = .watched ∧ 0 ≤ signedDiff s.localTime v.deadline)) :
    (48 ≤ s.link.actionLane.length → exec (.vacateExpiry t n) s = .next (s.declineVacate t n c v)) ∧
    (s.link.actionLane.length < 48 →
      (v.attempt = .first → exec (.vacateExpiry t n) s = .next (s.renewOrder t n c v)) ∧
      (v.attempt = .second → exec (.vacateExpiry t n) s = .next (s.giveUpSlot t n c v))) := by
  have delivered : deliverable v.watch v.deadline s.localTime = true := (deliverable_iff ..).mpr due
  simp only [exec, execVacateExpiry, State.live, live, Bool.false_eq_true, if_false, slot, delivered, if_true]
  refine ⟨fun full => ?_, fun room => ?_⟩
  · rw [if_pos (s.freePlaces_eq_zero_iff.mpr full)]
  · rw [if_neg (s.freePlaces_eq_zero_iff.not.mpr (Nat.not_le.mpr room))]
    exact ⟨fun first => by rw [first], fun second => by rw [second]⟩

/-- Settles O53: by the room in the action lane, the attempt and the beneficiary, whose entry is the only one with its tag. -/
theorem vacateExpiry : Obligations.VacateExpiry := by
  intro s t n c v live paired slot due stuck
  obtain ⟨declined, taken⟩ := exec_vacateExpiry_of_due live slot due
  refine ⟨declined, fun room => ?_⟩
  obtain ⟨renewed, given_up⟩ := taken room
  refine ⟨renewed, fun second none_waits => ?_, fun older e newer second beneficiary emergency => ?_⟩
  · rw [given_up second, State.giveUpSlot, none_waits]
    rfl
  · have dropped : stuck.setEarmark e.tag none = stuck.setWaiting .emergency (older ++ { e with earmark := none } :: newer) :=
      State.updateEmergency_of_unique _ emergency (paired.tag_ne emergency)
    rw [given_up second, State.giveUpSlot, beneficiary, State.clearBeneficiary, dropped]
    rfl

end Sys2Proof.Machine
end

section
/-! PROOFS. RELEASE of a VACATING slot (R99 to R101): the handover to its beneficiary, and what it becomes without one. -/

namespace Sys2Proof.Machine

variable {s : State} {t : SectorId} {n : SlotId} {older newer : List Waiting} {e : Waiting} {c : Call} {v : Vacate}

/-! ## The decision (R78, R99 to R101) -/

theorem decideRelease_of_vacating (nonzero : c.tag ≠ 0) (found : s.slotWith c.tag = some (t, n))
    (slot : s.slot t n = .vacating c v) :
    decideRelease c.tag s = (s.releaseVacating t n v).pushReply (.released c.tag (t, n) (Slot.vacating c v).code) := by
  simp only [decideRelease, if_neg nonzero, found, slot]

theorem State.releaseVacating_of_none (none_waits : v.beneficiary = none) : s.releaseVacating t n v = s.freeSlot t n := by
  simp only [State.releaseVacating, none_waits]

theorem State.releaseVacating_of_entry (beneficiary : v.beneficiary = some e.tag) (found : s.entryIn .emergency e.tag = some e) :
    (s.link.actionLane.length < 48 → s.releaseVacating t n v = s.grantWaiting t n e) ∧
    (48 ≤ s.link.actionLane.length → s.releaseVacating t n v = (s.setEarmark e.tag none).freeSlot t n) := by
  simp only [State.releaseVacating, beneficiary, found]
  exact ⟨fun room => if_neg (s.freePlaces_eq_zero_iff.not.mpr (Nat.not_le.mpr room)),
    fun full => if_pos (s.freePlaces_eq_zero_iff.mpr full)⟩

/-! ## The slot with its beneficiary -/

/-- The slot is handed over: the beneficiary leaves its list with its call in the slot (R99). -/
theorem State.RecordsPaired.grantWaiting_eq (paired : s.RecordsPaired) (emergency : s.emergency = older ++ e :: newer)
    (t : SectorId) (n : SlotId) : s.grantWaiting t n e = s.granted t n .emergency e (older ++ newer) := by
  have list : s.waiting .emergency = older ++ e :: newer := emergency
  have mem : e ∈ s.waiting .emergency := State.mem_waiting_of_eq list
  rw [State.grantWaiting, paired.cls_of_mem mem, State.removeWaiting_of_unique ((State.waiting_setSlot ..).trans list)
    (paired.waiting_tag_ne list), paired.callOf_eq mem]
  rfl

/-- Without a place for the report the earmark is dropped; the slot is then FREE, for it stands below the capacity of an OPEN sector
(R99, R100). -/
theorem State.RecordsPaired.freeSlot_setEarmark_eq (paired : s.RecordsPaired) (emergency : s.emergency = older ++ e :: newer)
    (opened : (s.sector t).state = .opened) (below : n.val < (s.sector t).capacity) :
    (s.setEarmark e.tag none).freeSlot t n =
      (((s.setSlot t n .free).setWaiting .emergency (older ++ { e with earmark := none } :: newer)).serveSlot t n).state := by
  have dropped : s.setEarmark e.tag none = s.setWaiting .emergency (older ++ { e with earmark := none } :: newer) :=
    State.updateEmergency_of_unique _ emergency (paired.tag_ne emergency)
  have freed := State.freeSlot_of_opened (s := s.setEarmark e.tag none) (n := n) opened
  rw [State.emptied, State.sector_setEarmark, if_pos below, dropped] at freed
  rw [dropped, freed]
  rfl

/-- Settles O25: by the beneficiary and the room in the action lane, then by the state of the slot's sector. -/
theorem releaseOfVacatingSlot : Obligations.ReleaseOfVacatingSlot := by
  intro s t n c v takes paired lawful slot r former answered
  have paired' : s.afterTaking.RecordsPaired := paired.afterTaking
  have slot' : s.afterTaking.slot t n = .vacating c v := slot
  have call : (s.afterTaking.slot t n).call? = some c := congrArg Slot.call? slot
  have full : (s.afterTaking.slot t n).occupied = true := (Slot.occupied_iff _).mpr ⟨c, call⟩
  have code : (Slot.vacating c v).code = former := by
    cases attempt : v.attempt <;> simp [Slot.code, former, attempt]
  have answer : exec (.release (.ok c.tag)) s = .next (decideRelease c.tag s.afterTaking) := exec_release_takes takes
  rw [decideRelease_of_vacating (paired.slotTagNonzero t n c call).1 (paired'.slotWith_of_call call) slot', code] at answer
  have becomes : ∀ u, s.afterTaking.releaseVacating t n v = u → answered u := fun u h => h ▸ answer
  refine ⟨fun older e newer emergency beneficiary => ?_, ?_⟩
  · obtain ⟨handed_over, dropped⟩ := State.releaseVacating_of_entry (t := t) (n := n) beneficiary
      (paired'.entryIn_emergency emergency)
    refine ⟨fun room => becomes _ ?_, fun no_room => becomes _ ?_⟩
    · rw [handed_over room, paired'.grantWaiting_eq emergency, State.granted,
        (paired.emergencyClass e (State.mem_waiting_of_eq (c := .emergency) emergency)).2]
      rfl
    · have earmarked : (s.slot t n).earmarked = true := by
        rw [slot, Slot.earmarked, beneficiary]
        rfl
      obtain ⟨opened, below⟩ := lawful.earmarked t n earmarked
      rw [dropped no_room, paired'.freeSlot_setEarmark_eq emergency opened below]
  · intro none_waits emptied
    have released := State.releaseVacating_of_none (s := s.afterTaking) (t := t) (n := n) none_waits
    obtain opened | draining := lawful.opened_or_draining full
    · exact .inl ⟨opened, fun _ => becomes _ (released.trans (State.freeSlot_of_opened opened)),
        fun above => becomes _ (released.trans (State.freeSlot_of_opened_above opened above))⟩
    · exact .inr ⟨draining, fun calls => becomes _ (released.trans (State.freeSlot_of_draining_with_calls draining full calls)),
        fun last => becomes _ (released.trans (State.freeSlot_of_draining_last draining full last))⟩

end Sys2Proof.Machine
end

section
/-! PROOFS. LEVEL-SET, TIMER-SET and GUARD-LOCK (R114, R148, R185). -/

namespace Sys2Proof.Machine

variable {s : State}

/-! ## A request whose fields are checked in message order (R181, step 4) -/

/-- A field that its width keeps in range is never the fault. -/
theorem fieldFault_cons_true (n : Nat) (rest : List (Nat × Bool)) : fieldFault ((n, true) :: rest) = fieldFault rest := rfl

/-- A chain of range checks answers by its first fault, and else as what follows it. -/
theorem elim_fault {α : Type} {bad : Prop} [Decidable bad] {n : Nat} {later : Option Nat}
    {accepted rest : α} {rejected : Nat → α} (h : ¬bad → later.elim accepted rejected = rest) :
    (if bad then some n else later).elim accepted rejected = if bad then rejected n else rest := by
  split
  · rfl
  · exact h ‹_›

/-! ## LEVEL-SET (R114) -/

theorem decideLevelSet_eq_elim (s : State) (f : LevelSetFields) :
    decideLevelSet f s = (fieldFault (levelSetChecks f)).elim
      ((s.stageRow (toLevel f.level) (writtenRow f)).pushReply (.levelAccepted (toLevel f.level)))
      (fun n => s.reject .levelSet .badField n 0) := by
  unfold decideLevelSet
  cases fieldFault (levelSetChecks f) <;> rfl

/-- The refill octet cannot be out of range, so field 3 is never the fault (R113). -/
theorem levelSetChecks_fault (f : LevelSetFields) :
    fieldFault (levelSetChecks f) =
      if 7 < f.level.toNat then some 1
      else if 4095 < f.threshold.toNat ∨ (f.level = 0 ∧ f.threshold ≠ 0) then some 2
      else if 100 < f.barPct.toNat ∨ f.barPct.toNat % 5 ≠ 0 then some 4
      else if f.barTime.toNat < 4 ∨ 512 < f.barTime.toNat then some 5
      else if 4095 < f.base.toNat then some 6
      else none := by
  have refill : decide (f.refill.toNat ≤ 255) = true := decide_eq_true (Nat.le_of_lt_succ f.refill.isLt)
  rw [levelSetChecks, refill]
  refine fieldFault_cons ?level (fieldFault_cons ?threshold ((fieldFault_cons_true _ _).trans (fieldFault_cons ?barPct
    (fieldFault_cons ?barTime (fieldFault_cons ?base rfl)))))
  all_goals exact decide_eq_false_iff_not.trans (by simp only [not_le, not_and_or, Classical.not_imp, ne_eq])

/-! ## TIMER-SET (R148) -/

theorem decideTimerSet_eq_elim (s : State) (f : TimerSetFields) :
    decideTimerSet f s = (fieldFault (timerSetChecks f)).elim ((s.applyTimerSet f).pushReply (.accepted .timerSet))
      (fun n => s.reject .timerSet .badField n 0) := by
  unfold decideTimerSet
  cases fieldFault (timerSetChecks f) <;> rfl

theorem timerSetChecks_fault (f : TimerSetFields) :
    fieldFault (timerSetChecks f) =
      if f.generalWait.toNat = 0 then some 1
      else if f.priorityWait.toNat = 0 then some 2
      else if f.emergencyWait.toNat = 0 then some 3
      else if 60 < f.escalationTime.toNat then some 4
      else if f.vacateTimeout.toNat < 200 ∨ 10000 < f.vacateTimeout.toNat then some 5
      else if f.repeatWindow.toNat = 0 ∨ 600 < f.repeatWindow.toNat then some 6
      else if 4095 < f.jitter.toNat then some 7
      else if f.policy ≠ 1 ∧ f.policy ≠ 2 then some 8
      else if f.epochPeriod.toNat < 100 ∨ 5000 < f.epochPeriod.toNat ∨ f.epochPeriod.toNat % 100 ≠ 0 then some 9
      else none := by
  refine fieldFault_cons ?generalWait (fieldFault_cons ?priorityWait (fieldFault_cons ?emergencyWait
    (fieldFault_cons ?escalationTime (fieldFault_cons ?vacateTimeout (fieldFault_cons ?repeatWindow (fieldFault_cons ?jitter
    (fieldFault_cons ?policy (fieldFault_cons ?epochPeriod rfl))))))))
  case policy => exact decide_eq_false_iff_not.trans not_or
  all_goals exact decide_eq_false_iff_not.trans (by omega)

/-- With the policy octet in range, either of its two values tells the policy (R148). -/
theorem writtenSettings_policy {f : TimerSetFields} (range : ¬(f.policy ≠ 1 ∧ f.policy ≠ 2)) :
    (writtenSettings f).policy = if f.policy = 1 then .protect else .displace := by
  by_cases protect : f.policy = 1
  · rw [if_pos protect, writtenSettings, protect]
    rfl
  · have displace : f.policy = 2 := not_not.mp fun h => range ⟨protect, h⟩
    rw [if_neg protect, writtenSettings, if_pos displace]

/-! ## The statement -/

/-- Settles O35: the checks of each request in message order, then what it writes. -/
theorem levelSetTimerSetGuardLock : Obligations.LevelSetTimerSetGuardLock := by
  refine ⟨fun s f takes => ?levelSet, fun s f takes => ?timerSet, fun s takes =>
    ⟨exec_guardLock_takes takes, fun locked => ?lock⟩⟩
  case levelSet =>
    refine (exec_levelSet_takes takes).trans (congrArg _ ?_)
    rw [decideBody, decideLevelSet_eq_elim, levelSetChecks_fault]
    exact elim_fault fun _ => elim_fault fun _ => elim_fault fun _ => elim_fault fun _ => elim_fault fun _ => rfl
  case timerSet =>
    refine (exec_timerSet_takes takes).trans (congrArg _ ?_)
    rw [decideBody, decideTimerSet_eq_elim, timerSetChecks_fault]
    refine elim_fault fun _ => elim_fault fun _ => elim_fault fun _ => elim_fault fun _ => elim_fault fun _ =>
      elim_fault fun _ => elim_fault fun _ => elim_fault fun policy => elim_fault fun _ => ?_
    rw [← writtenSettings_policy policy]
    rfl
  case lock =>
    have unchanged : ({ s.afterTaking with guardLock := true } : State) = s.afterTaking := by rw [← locked]; rfl
    rw [exec_guardLock_takes takes, decideBody, unchanged]

end Sys2Proof.Machine
end

section
/-! SUPPORT. Local time (R146, R147) and the surge window's times (R128, R130): a time a known number of milliseconds ahead. -/

namespace Sys2Proof.Machine

variable {now : Time} {w : Surge} {left : Nat}

theorem after_after (now : Time) (a b : Nat) : after (after now a) b = after now (a + b) := by
  simp [after, BitVec.ofNat_add, BitVec.add_assoc]

theorem toInt_ofNat_of_lt {k : Nat} (half : k < 2147483648) : (BitVec.ofNat 32 k).toInt = k := by
  rw [BitVec.toInt_eq_toNat_of_lt] <;> simp only [BitVec.toNat_ofNat] <;> omega

/-- A time less than half the circle ahead lies as far ahead as it was set (R147). -/
theorem signedDiff_after (now : Time) {k : Nat} (half : k < 2147483648) : signedDiff (after now k) now = k := by
  rw [signedDiff, after, add_sub_cancel_left, toInt_ofNat_of_lt half]

/-- The closing point of a window is reached once 10000 ms or less are left (R128). -/
theorem closingReached_after (close : w.close = after now left) (half : left < 2147483648) :
    closingReached w now = decide (left ≤ 10000) := by
  have difference : now - (now + BitVec.ofNat 32 left - BitVec.ofNat 32 10000) = BitVec.ofNat 32 10000 - BitVec.ofNat 32 left := by
    abel
  have late : signedDiff now (closingPointOf w) = 10000 - (left : Int) := by
    rw [signedDiff, closingPointOf, close, after, difference, BitVec.toInt_sub, toInt_ofNat_of_lt half,
      toInt_ofNat_of_lt (by decide)]
    exact Int.bmod_eq_of_le (by omega) (by omega)
  rw [closingReached, reached, late]
  exact decide_eq_decide.mpr (by omega)

theorem surgeRemaining_after (close : w.close = after now left) (half : left < 2147483648) :
    surgeRemaining w now = (left + 999) / 1000 := by
  rw [surgeRemaining, surgeRemainingMs, close, signedDiff_after now half, Int.toNat_natCast]

/-- A window extended while it has at most one hour to run (R130). -/
theorem Surge.extend_after (close : w.close = after now left) (hour : left ≤ 3600000) {seconds : Nat} (range : seconds ≤ 3600) :
    w.extend now seconds =
      { floor := w.floor, close := after now (min (left + seconds * 1000) 3600000),
        noticeDue := w.noticeDue || decide (10000 < min (left + seconds * 1000) 3600000) } := by
  have moved : signedDiff (after now (left + seconds * 1000)) now = (left + seconds * 1000 : Nat) := signedDiff_after now (by omega)
  have capped : (if 3600000 < signedDiff (after now (left + seconds * 1000)) now then after now 3600000
      else after now (left + seconds * 1000)) = after now (min (left + seconds * 1000) 3600000) := by
    rw [moved]
    split
    · rw [Nat.min_eq_right (by omega)]
    · rw [Nat.min_eq_left (by omega)]
  simp only [Surge.extend, close, after_after, capped]
  rw [signedDiff_after now (by omega)]
  congr 1
  by_cases far : 10000 < min (left + seconds * 1000) 3600000
  · rw [if_pos (by exact_mod_cast far), decide_eq_true far, Bool.or_true]
  · rw [if_neg (by exact_mod_cast far), decide_eq_false far, Bool.or_false]

end Sys2Proof.Machine
end

section
/-! SUPPORT. What offering a status report does (R164, R165), reports offered in sequence, and a walk over sectors that rewrites each
record and offers its report (R116, R129). -/

namespace Sys2Proof.Machine

variable {s u : State} {r : StatusReport}

/-! ## One report offered (R164) -/

/-- The report takes the place of the first that it supersedes. -/
theorem replaceReport_append {older newer : List StatusReport} {old : StatusReport} (first : ∀ x ∈ older, r.supersedes x = false)
    (superseded : r.supersedes old = true) : replaceReport r (older ++ old :: newer) = older ++ r :: newer := by
  induction older with
  | nil => simp [replaceReport, superseded]
  | cons x rest ih =>
    obtain ⟨skipped, others⟩ := List.forall_mem_cons.mp first
    simp [replaceReport, skipped, ih others]

theorem State.offerStatus_replaces {head older newer : List StatusReport} {old : StatusReport}
    (lane : s.link.statusLane = head ++ older ++ old :: newer) (sent : head.length = s.link.statusInTransmission)
    (first : ∀ x ∈ older, r.supersedes x = false) (superseded : r.supersedes old = true) :
    s.offerStatus r = { s with link := { s.link with statusLane := head ++ older ++ r :: newer } } := by
  rw [List.append_assoc] at lane
  have in_transmission : s.link.statusLane.take s.link.statusInTransmission = head := by rw [lane, ← sent, List.take_left]
  have unsent : s.link.statusLane.drop s.link.statusInTransmission = older ++ old :: newer := by
    rw [lane, ← sent, List.drop_left]
  have found : (older ++ old :: newer).any (fun x => r.supersedes x) = true := List.any_eq_true.mpr ⟨old, by simp, superseded⟩
  simp only [State.offerStatus, in_transmission, unsent, found, if_true, replaceReport_append first superseded,
    List.append_assoc]

theorem State.none_superseded (none_old : ∀ x ∈ s.link.statusLane.drop s.link.statusInTransmission, r.supersedes x = false) :
    (s.link.statusLane.drop s.link.statusInTransmission).any (fun x => r.supersedes x) = false := by
  simpa using none_old

theorem State.offerStatus_joins (none_old : ∀ x ∈ s.link.statusLane.drop s.link.statusInTransmission, r.supersedes x = false)
    (room : s.link.statusLane.length < 32) :
    s.offerStatus r = { s with link := { s.link with statusLane := s.link.statusLane ++ [r] } } := by
  simp [State.offerStatus, State.none_superseded none_old, Config.statusPlaces, room]

theorem State.offerStatus_loses (none_old : ∀ x ∈ s.link.statusLane.drop s.link.statusInTransmission, r.supersedes x = false)
    (full : 32 ≤ s.link.statusLane.length) :
    s.offerStatus r = { s with link := { s.link with statusLost := bump s.link.statusLost } } := by
  simp [State.offerStatus, State.none_superseded none_old, Config.statusPlaces, Nat.not_lt.mpr full]

/-! ## Reports offered in sequence -/

/-- Offering reports reads and writes the link port alone. -/
theorem State.offerAll_of_link_eq (h : u.link = s.link) (l : List StatusReport) :
    u.offerAll l = { u with link := (s.offerAll l).link } := by
  induction l generalizing s u with
  | nil => simp [State.offerAll, ← h]
  | cons r rest ih =>
    have first := State.offerStatus_of_link_eq h r
    change (u.offerStatus r).offerAll rest = { u with link := ((s.offerStatus r).offerAll rest).link }
    rw [ih (s := s.offerStatus r) (u := u.offerStatus r) (by rw [first]), first]

theorem State.offerAll_append (s : State) (l m : List StatusReport) : s.offerAll (l ++ m) = (s.offerAll l).offerAll m :=
  List.foldl_append

/-! ## A walk over sectors (R116, R129) -/

/-- The record of a sector is written, and its report offered where there is one. -/
def State.rewriteSector (record : SectorId → Sector) (report : SectorId → Option StatusReport) (s : State) (t : SectorId) : State :=
  (s.setSector t (record t)).offerAll (report t).toList

/-- The two things that a walk over sectors writes, the link port and the sector records, are all in which two states differ. -/
def State.SameButSectors (s u : State) : Prop := u = { s with link := u.link, sectors := u.sectors }

variable {record : SectorId → Sector} {report : SectorId → Option StatusReport} {step : State → SectorId → State}

theorem State.rewriteSector_eq (s : State) (t : SectorId) :
    s.rewriteSector record report t =
      { s with link := (s.offerAll (report t).toList).link, sectors := s.sectors.set t (record t) } :=
  State.offerAll_of_link_eq (s := s) (u := s.setSector t (record t)) rfl _

theorem State.SameButSectors.refl (s : State) : s.SameButSectors s := rfl

theorem State.SameButSectors.rewriteSector (same : s.SameButSectors u) (t : SectorId) :
    s.SameButSectors (u.rewriteSector record report t) := by
  rw [State.rewriteSector_eq, same]
  rfl

theorem State.sector_rewriteSector (s : State) (t v : SectorId) :
    (s.rewriteSector record report t).sector v = if t = v then record t else s.sector v := by
  rw [← State.sector_setSector, State.rewriteSector_eq]
  rfl

/-- The reports of a walk are offered in its order, to the link as it stood. -/
theorem foldl_rewriteSector_eq (l : List SectorId) (s : State) :
    l.foldl (State.rewriteSector record report) s =
      { s with link := (s.offerAll (l.filterMap report)).link,
               sectors := (l.foldl (State.rewriteSector record report) s).sectors } := by
  induction l generalizing s with
  | nil => rfl
  | cons t rest ih =>
    have reports : (t :: rest).filterMap report = (report t).toList ++ rest.filterMap report := by
      rw [List.filterMap_cons]
      cases report t <;> rfl
    have link : (s.rewriteSector record report t).link = (s.offerAll (report t).toList).link := by rw [State.rewriteSector_eq]
    rw [List.foldl_cons, ih, reports, State.offerAll_append, State.offerAll_of_link_eq link]
    simp only [State.rewriteSector_eq]

theorem foldl_rewriteSector_sector (l : List SectorId) (s : State) (t : SectorId) :
    (l.foldl (State.rewriteSector record report) s).sector t = if t ∈ l then record t else s.sector t := by
  induction l generalizing s with
  | nil => simp
  | cons v rest ih =>
    rw [List.foldl_cons, ih, State.sector_rewriteSector]
    by_cases at_t : v = t
    · subst at_t
      simp
    · simp [at_t, Ne.symm at_t]

/-- A walk whose steps each read their own sector, and otherwise what no step writes, rewrites each record from the state before
the walk. -/
theorem foldl_eq_rewriteSector
    (local_step : ∀ u t, s.SameButSectors u → u.sector t = s.sector t → step u t = u.rewriteSector record report t)
    {l : List SectorId} (distinct : l.Nodup) (same : s.SameButSectors u) (unread : ∀ t ∈ l, u.sector t = s.sector t) :
    l.foldl step u = l.foldl (State.rewriteSector record report) u := by
  induction l generalizing u with
  | nil => rfl
  | cons t rest ih =>
    obtain ⟨fresh, distinct'⟩ := List.nodup_cons.mp distinct
    obtain ⟨unread_t, unread'⟩ := List.forall_mem_cons.mp unread
    rw [List.foldl_cons, List.foldl_cons, local_step u t same unread_t]
    refine ih distinct' (same.rewriteSector t) fun v later => ?_
    have passed : t ≠ v := fun h => fresh (h ▸ later)
    rw [State.sector_rewriteSector, if_neg passed, unread' v later]

theorem mem_allSectors (t : SectorId) : t ∈ allSectors := by
  revert t
  decide

theorem allSectors_nodup : allSectors.Nodup := by decide

/-- A walk over all sectors from a state, sector by sector and as a whole. -/
theorem foldl_allSectors_sector
    (local_step : ∀ u t, s.SameButSectors u → u.sector t = s.sector t → step u t = u.rewriteSector record report t)
    (t : SectorId) : (allSectors.foldl step s).sector t = record t := by
  rw [foldl_eq_rewriteSector local_step allSectors_nodup (.refl s) fun _ _ => rfl, foldl_rewriteSector_sector,
    if_pos (mem_allSectors t)]

theorem foldl_allSectors_eq
    (local_step : ∀ u t, s.SameButSectors u → u.sector t = s.sector t → step u t = u.rewriteSector record report t) :
    allSectors.foldl step s =
      { s with link := (s.offerAll (allSectors.filterMap report)).link, sectors := (allSectors.foldl step s).sectors } := by
  rw [foldl_eq_rewriteSector local_step allSectors_nodup (.refl s) fun _ _ => rfl]
  exact foldl_rewriteSector_eq allSectors s

end Sys2Proof.Machine
end

section
/-! PROOFS. The surge window: SURGE-OPEN, SURGE-EXTEND, SURGE-CLOSE, its expiry and its closing point (R128 to R132), and the
placement of status reports (R164). -/

namespace Sys2Proof.Machine

variable {s u : State} {w : Surge}

/-! ## The raise of the sectors (R129, item 2) -/

/-- The sector stands below the floor of a window that opens. -/
def State.standsBelow (s : State) (floor : LevelId) (t : SectorId) : Bool :=
  decide ((s.sector t).state ≠ .disabled ∧ (s.sector t).level < floor)

/-- The record of a sector once a window with this floor has opened. -/
def State.raisedRecord (s : State) (floor : LevelId) (t : SectorId) : Sector :=
  if s.standsBelow floor t then { s.sector t with level := floor, votes := ⟨.hold, .hold, .hold⟩ } else s.sector t

/-- The LEVEL report of a sector at a level. -/
def State.levelReportAt (s : State) (l : LevelId) (t : SectorId) : StatusReport :=
  .level t l (s.governor.activeTable.get l).barPct (s.governor.activeTable.get l).barTime

theorem State.levelReport_setSector (u : State) (t : SectorId) (r : Sector) :
    (u.setSector t r).levelReport t = u.levelReportAt r.level t := by
  rw [State.levelReport, State.sector_setSector_same]
  rfl

theorem State.setSector_self (u : State) (t : SectorId) : u.setSector t (u.sector t) = u := by
  simp [State.setSector, State.sector]

theorem State.SameButSectors.levelReportAt (same : s.SameButSectors u) : u.levelReportAt = s.levelReportAt := by
  rw [same]
  rfl

theorem State.raiseToFloor_eq_rewriteSector (floor : LevelId) (t : SectorId) (same : s.SameButSectors u)
    (unread : u.sector t = s.sector t) :
    u.raiseToFloor floor t = u.rewriteSector (s.raisedRecord floor)
      (fun t => (Option.guard (s.standsBelow floor) t).map (s.levelReportAt floor)) t := by
  simp only [State.raiseToFloor, State.levelReport_setSector, State.rewriteSector, State.raisedRecord, Option.guard, unread,
    same.levelReportAt]
  by_cases below : (s.sector t).state ≠ .disabled ∧ (s.sector t).level.val < floor.val
  · have raised : s.standsBelow floor t = true := decide_eq_true below
    rw [if_pos raised, if_pos raised, if_pos below]
    rfl
  · have kept : ¬s.standsBelow floor t = true := by simpa [State.standsBelow] using below
    rw [if_neg kept, if_neg kept, if_neg below, ← unread, State.setSector_self]
    rfl

theorem raiseSectors_eq_foldl (floor : LevelId) (l : List SectorId) (s : State) :
    raiseSectors floor l s = l.foldl (fun u t => u.raiseToFloor floor t) s := by
  induction l generalizing s with
  | nil => rfl
  | cons t rest ih => exact ih _

theorem raiseSectors_sector (s : State) (floor : LevelId) (t : SectorId) :
    (raiseSectors floor allSectors s).sector t = s.raisedRecord floor t := by
  rw [raiseSectors_eq_foldl]
  exact foldl_allSectors_sector (fun _ _ same unread => State.raiseToFloor_eq_rewriteSector floor _ same unread) t

theorem raiseSectors_eq (s : State) (floor : LevelId) :
    raiseSectors floor allSectors s =
      { s with link := (s.offerAll ((allSectors.filter (s.standsBelow floor)).map (s.levelReportAt floor))).link,
               sectors := (raiseSectors floor allSectors s).sectors } := by
  rw [← List.filterMap_eq_filter, List.map_filterMap, raiseSectors_eq_foldl]
  exact foldl_allSectors_eq fun _ _ same unread => State.raiseToFloor_eq_rewriteSector floor _ same unread

/-! ## SURGE-OPEN (R129) -/

/-- The reports of a SURGE-OPEN, in the order in which they are offered. -/
def State.surgeReports (s : State) (floor : LevelId) (seconds : Nat) : List StatusReport :=
  (allSectors.filter (s.standsBelow floor)).map (s.levelReportAt floor) ++ [.surge .opened floor seconds] ++
    (if seconds ≤ 10 then [.surge .closing floor seconds] else [])

/-- The window that opens at this instant, its notice yet to be given. -/
def openedWindow (now : Time) (floor : LevelId) (seconds : Nat) : Surge :=
  { floor := floor, close := after now (seconds * 1000), noticeDue := true }

@[simp] theorem openedWindow_floor (now : Time) (floor : LevelId) (seconds : Nat) :
    (openedWindow now floor seconds).floor = floor := rfl

theorem openedWindow_remaining (now : Time) (floor : LevelId) {seconds : Nat} (hour : seconds ≤ 3600) :
    surgeRemaining (openedWindow now floor seconds) now = seconds := by
  rw [surgeRemaining_after (left := seconds * 1000) rfl (by omega)]
  omega

theorem openedWindow_closingReached (now : Time) (floor : LevelId) {seconds : Nat} (hour : seconds ≤ 3600) :
    closingReached (openedWindow now floor seconds) now = true ↔ seconds ≤ 10 := by
  rw [closingReached_after (left := seconds * 1000) rfl (by omega), decide_eq_true_iff]
  omega

/-- The state once the window stands and the sectors below its floor are raised (R129, items 1 and 2). -/
def State.raisedWith (s : State) (w : Surge) : State := raiseSectors w.floor allSectors (s.setSurge (some w))

theorem State.raisedWith_sector (s : State) (w : Surge) (t : SectorId) : (s.raisedWith w).sector t = s.raisedRecord w.floor t :=
  raiseSectors_sector (s.setSurge (some w)) w.floor t

theorem State.raisedWith_eq (s : State) (w : Surge) :
    s.raisedWith w =
      { s with link := (s.offerAll ((allSectors.filter (s.standsBelow w.floor)).map (s.levelReportAt w.floor))).link,
               sectors := (s.raisedWith w).sectors, governor := { s.governor with surge := some w } } := by
  have raised := raiseSectors_eq (s.setSurge (some w)) w.floor
  rwa [State.offerAll_of_link_eq (s := s) (u := s.setSurge (some w)) rfl] at raised

theorem State.raisedWith_link (s : State) (w : Surge) :
    (s.raisedWith w).link = (s.offerAll ((allSectors.filter (s.standsBelow w.floor)).map (s.levelReportAt w.floor))).link := by
  rw [State.raisedWith_eq]

theorem State.raisedWith_governor (s : State) (w : Surge) :
    (s.raisedWith w).governor = { s.governor with surge := some w } := by
  rw [State.raisedWith_eq]

/-- A report offered after others have been offered to the link joins their sequence. -/
theorem State.offerStatus_after {l : List StatusReport} (after : u.link = (s.offerAll l).link) (r : StatusReport) :
    u.offerStatus r = { u with link := (s.offerAll (l ++ [r])).link } := by
  rw [State.offerStatus_of_link_eq after, State.offerAll_append]
  rfl

theorem State.link_offerStatus_after {l : List StatusReport} (after : u.link = (s.offerAll l).link) (r : StatusReport) :
    (u.offerStatus r).link = (s.offerAll (l ++ [r])).link := by
  rw [State.offerStatus_after after]

theorem State.placeClosing_eq {n : Nat} (remaining : surgeRemaining w u.localTime = n) :
    u.placeClosing w = (u.setSurge (some { w with noticeDue := false })).offerStatus (.surge .closing w.floor n) := by
  rw [State.placeClosing, remaining]

/-- SURGE-OPEN: the raises, then OPENED, then with 10 s or less to run CLOSING, its notice then given (R129, R131). -/
theorem State.openSurge_cases (s : State) (floor : LevelId) {seconds : Nat} (hour : seconds ≤ 3600) :
    s.openSurge floor seconds =
      let w := openedWindow s.localTime floor seconds
      let opened := (s.raisedWith w).offerStatus (.surge .opened floor seconds)
      if seconds ≤ 10 then (opened.setSurge (some { w with noticeDue := false })).offerStatus (.surge .closing floor seconds)
      else opened := by
  have unfolded : s.openSurge floor seconds =
      let w := openedWindow s.localTime floor seconds
      let opened := (s.raisedWith w).offerStatus (.surge .opened floor (surgeRemaining w s.localTime))
      if closingReached w s.localTime then opened.placeClosing w else opened := rfl
  have remaining := openedWindow_remaining s.localTime floor hour
  have now : ∀ w, ((s.raisedWith w).offerStatus (.surge .opened floor seconds)).localTime = s.localTime := fun w => by
    rw [State.offerStatus_localTime, State.raisedWith_eq]
  have closing := State.placeClosing_eq ((congrArg _ (now (openedWindow s.localTime floor seconds))).trans remaining)
  rw [unfolded]
  simp only [openedWindow_closingReached s.localTime floor hour, remaining, closing]
  rfl

theorem State.openSurge_eq (s : State) (floor : LevelId) {seconds : Nat} (hour : seconds ≤ 3600) :
    s.openSurge floor seconds =
      { s with
        link := (s.offerAll (s.surgeReports floor seconds)).link
        sectors := (s.raisedWith (openedWindow s.localTime floor seconds)).sectors
        governor := { s.governor with
          surge := some { openedWindow s.localTime floor seconds with noticeDue := decide (10 < seconds) } } } := by
  have raised := s.raisedWith_link (openedWindow s.localTime floor seconds)
  have opened := State.link_offerStatus_after raised (.surge .opened floor seconds)
  rw [openedWindow_floor] at raised opened
  rw [State.openSurge_cases s floor hour, State.surgeReports]
  dsimp only
  by_cases near : seconds ≤ 10
  · rw [if_pos near, if_pos near, decide_eq_false (Nat.not_lt.mpr near),
      State.offerStatus_after ((State.setSurge_link _ _).trans opened), State.setSurge, State.offerStatus_after raised]
    conv_lhs => rw [State.raisedWith_eq, openedWindow_floor]
    dsimp only
    rfl
  · rw [if_neg near, if_neg near, decide_eq_true (Nat.not_le.mp near), List.append_nil, State.offerStatus_after raised]
    conv_lhs => rw [State.raisedWith_eq, openedWindow_floor]
    dsimp only
    rfl

theorem State.openSurge_sectors (s : State) (floor : LevelId) {seconds : Nat} (hour : seconds ≤ 3600) :
    (s.openSurge floor seconds).sectors = (s.raisedWith (openedWindow s.localTime floor seconds)).sectors := by
  rw [State.openSurge_eq s floor hour]

theorem State.openSurge_localTime (s : State) (floor : LevelId) {seconds : Nat} (hour : seconds ≤ 3600) :
    (s.openSurge floor seconds).localTime = s.localTime := by
  rw [State.openSurge_eq s floor hour]

/-- What a SURGE-OPEN is answered: the first field out of range, or the window (R129). -/
theorem surgeOpenChecks_fault (f : SurgeOpenFields) :
    fieldFault (surgeOpenChecks f) =
      if ¬(1 ≤ f.duration.toNat ∧ f.duration.toNat ≤ 3600) then some 1 else if 7 < f.floor.toNat then some 2 else none := by
  refine fieldFault_cons ?duration (fieldFault_cons ?floor rfl)
  all_goals exact decide_eq_false_iff_not.trans (by omega)

/-! ## SURGE-EXTEND (R130) -/

theorem secondsFault_eq (n : BitVec 16) : secondsFault n = if ¬(1 ≤ n.toNat ∧ n.toNat ≤ 3600) then some 1 else none :=
  fieldFault_cons decide_eq_false_iff_not rfl

theorem State.acceptSurge_eq {k : RequestKind} {n : Nat} (remaining : surgeRemaining w u.localTime = n) :
    u.acceptSurge k w = u.pushReply (.surgeAccepted k w.floor n) := by
  rw [State.acceptSurge, remaining]

/-! ## The window's own events (R131, R132) -/

theorem exec_surgeExpiry_of_due (live : s.inReset = false) (opened : s.governor.surge = some w)
    (due : 0 ≤ signedDiff s.localTime w.close) : exec .surgeExpiry s = .next (s.closeSurge w) := by
  have delivered : reached w.close s.localTime = true := decide_eq_true due
  simp only [exec, execSurgeExpiry, State.live, live, Bool.false_eq_true, if_false, opened, delivered, if_true]

theorem exec_closingPoint_of_due (live : s.inReset = false) (opened : s.governor.surge = some w) (notice : w.noticeDue = true)
    (due : closingReached w s.localTime = true) : exec .closingPoint s = .next (s.placeClosing w) := by
  simp only [exec, execClosingPoint, State.live, live, Bool.false_eq_true, if_false, opened, notice, due, and_self, if_true]

/-! ## The statements -/

/-- Settles O36: a report offered by what it supersedes and the room in the lane; the request by its field checks, then by the
window, the raises of the sectors and the reports that follow them. -/
theorem surgeOpen : Obligations.SurgeOpen := by
  refine ⟨?offer, ?request⟩
  case offer =>
    intro u r lane sent replaces kept
    have superseded : ∀ x, r.supersedes x = true ↔ replaces x := fun x => by
      cases r <;> cases x <;> simp [StatusReport.supersedes, replaces]
    have passed : ∀ l : List StatusReport, (∀ x ∈ l, ¬replaces x) → ∀ x ∈ l, r.supersedes x = false := fun l h x mem =>
      Bool.eq_false_iff.mpr (mt (superseded x).mp (h x mem))
    refine ⟨fun head older old newer whole head_sent first replaced => ?_, fun none_old room => ?_, fun none_old full => ?_⟩
    · exact State.offerStatus_replaces whole head_sent (passed _ first) ((superseded old).mpr replaced)
    · exact State.offerStatus_joins (passed _ none_old) room
    · exact State.offerStatus_loses (passed _ none_old) full
  case request =>
    intro s f takes rejected seconds floor row raised reports
    have answer := exec_surgeOpen_takes takes
    rw [decideBody, decideSurgeOpen, surgeOpenChecks_fault] at answer
    refine ⟨fun bad => ?_, fun positive hour bad => ?_, fun positive hour level => ?_⟩
    · rw [if_pos (by omega)] at answer
      exact answer
    · rw [if_neg (by omega), if_pos bad] at answer
      exact answer
    · rw [if_neg (by omega), if_neg (by omega)] at answer
      have opened := s.afterTaking.openSurge_eq floor hour
      have walked := s.afterTaking.openSurge_sectors floor hour
      have remaining : surgeRemaining (openedWindow s.localTime floor seconds)
          (s.afterTaking.openSurge floor seconds).localTime = seconds := by
        rw [s.afterTaking.openSurge_localTime floor hour]
        exact openedWindow_remaining s.localTime floor hour
      rw [← walked] at opened
      refine ⟨s.afterTaking.openSurge floor seconds, opened, fun t => ?_, ?_⟩
      · rw [State.sector_congr walked, State.raisedWith_sector]
        rfl
      · exact answer.trans (congrArg Host.Outcome.next (State.acceptSurge_eq remaining))

/-- Settles O37: the seconds are checked, then whether a window is open, and then it is extended. -/
theorem surgeExtend : Obligations.SurgeExtend := by
  intro s seconds takes rejected
  have answer := exec_surgeExtend_takes takes
  rw [decideBody, decideSurgeExtend, secondsFault_eq] at answer
  refine ⟨fun bad => ?_, fun positive hour closed => ?_, ?_⟩
  · rw [if_pos (by omega)] at answer
    exact answer
  · rw [if_neg (by omega)] at answer
    simp only [State.afterTaking_governor, closed] at answer
    exact answer
  · intro w left positive hour opened close within newLeft w'
    rw [if_neg (by omega)] at answer
    have extended : w.extend s.afterTaking.localTime seconds.toNat = w' := Surge.extend_after close within hour
    have remaining : surgeRemaining w' s.localTime = (newLeft + 999) / 1000 := surgeRemaining_after rfl (by omega)
    simp only [State.afterTaking_governor, opened, extended] at answer
    exact answer.trans (congrArg Host.Outcome.next (State.acceptSurge_eq remaining))

/-- Settles O38: by the window where SURGE-CLOSE is taken, and by its times at its expiry and its closing point. -/
theorem surgeWindowEnds : Obligations.SurgeWindowEnds := by
  intro s closed
  refine ⟨fun takes => ?close, fun w running opened due => ?expiry, fun w left running opened due close near => ?closing⟩
  case close =>
    have answer := exec_surgeClose_takes takes
    rw [decideBody, decideSurgeClose, State.afterTaking_governor] at answer
    refine ⟨fun none_open => ?_, fun w opened => ?_⟩
    · rw [none_open] at answer
      exact answer
    · rw [opened] at answer
      exact answer
  case expiry => exact exec_surgeExpiry_of_due running opened due
  case closing =>
    rw [exec_closingPoint_of_due running opened due ((closingReached_after close (by omega)).trans (decide_eq_true near)),
      State.placeClosing_eq (surgeRemaining_after close (by omega))]
    rfl

end Sys2Proof.Machine
end

section
/-! PROOFS. The pressure update (R119). -/

namespace Sys2Proof.Machine

/-- A weight of at most 16 sixteenths moves no further than the whole way (R119). -/
theorem weighted_between (d : Int) {w : Nat} (weight : w ≤ 16) : min 0 (16 * d) ≤ d * w ∧ d * w ≤ max 0 (16 * d) := by
  have weight' : (w : Int) ≤ 16 := by exact_mod_cast weight
  have nonneg : (0 : Int) ≤ w := Int.natCast_nonneg w
  obtain up | down := Int.le_total 0 d
  · have start := mul_nonneg up nonneg
    have most := mul_le_mul_of_nonneg_left weight' up
    omega
  · have start := mul_nonpos_of_nonpos_of_nonneg down nonneg
    have most := mul_le_mul_of_nonpos_left weight' down
    omega

/-- The new pressure as a whole number: it is never cut at 0, because the load index is not below 0. -/
theorem newPressure_eq (p l : Nat) {w : Nat} (weight : w ≤ 16) :
    (newPressure p l w : Int) = p + (((l : Int) - p) * w + 8) / 16 := by
  obtain ⟨low, -⟩ := weighted_between ((l : Int) - p) weight
  rw [newPressure, Int.fdiv_eq_ediv_of_nonneg _ (by decide)]
  exact Int.toNat_of_nonneg (by omega)

/-- Settles O39: the move d x W lies between 0 and 16 d, and what is left is arithmetic in it. -/
theorem pressureUpdate : Obligations.PressureUpdate := by
  intro p l w _ _ _ weight d
  have value : (newPressure p l w : Int) = p + (d * w + 8) / 16 := newPressure_eq p l weight
  obtain ⟨low, high⟩ := weighted_between d weight
  have difference : d = (l : Int) - p := rfl
  refine ⟨value, by omega, by omega, fun whole => ?_, by omega⟩
  subst whole
  omega

end Sys2Proof.Machine
end

section
/-! PROOFS. An epoch boundary: the staged copies, the sectors' step, the pass (R115 to R126). -/

namespace Sys2Proof.Machine

variable {s u : State}

/-! ## The target level (R121) -/

theorem mem_allLevels (n : LevelId) : n ∈ allLevels := by
  revert n
  decide

theorem allLevels_reverse_descending : allLevels.reverse.Pairwise (fun a b => b < a) := by decide

/-- The table's target is the highest level whose threshold the pressure meets; level 0 is met by every pressure (R113). -/
theorem tableTarget_highest {table : Table LevelRow 8} (zero : (table.get 0).threshold = 0) (p : Nat) :
    (table.get (tableTarget table p)).threshold ≤ p ∧ ∀ n, tableTarget table p < n → p < (table.get n).threshold := by
  have found : (allLevels.reverse.find? (fun l => decide ((rowOf table l).threshold ≤ p))).isSome = true := by
    rw [List.find?_isSome]
    exact ⟨0, List.mem_reverse.mpr (mem_allLevels 0), decide_eq_true (zero.trans_le (Nat.zero_le p))⟩
  obtain ⟨top, first⟩ := Option.isSome_iff_exists.mp found
  have target : tableTarget table p = top := by rw [tableTarget, first]; rfl
  obtain ⟨met, higher, lower, whole, unmet⟩ := List.find?_eq_some_iff_append.mp first
  rw [target]
  refine ⟨of_decide_eq_true met, fun n above => ?_⟩
  have descending := allLevels_reverse_descending
  have listed := List.mem_reverse.mpr (mem_allLevels n)
  rw [whole] at descending listed
  obtain ⟨-, from_top, -⟩ := List.pairwise_append.mp descending
  obtain in_higher | rfl | in_lower : n ∈ higher ∨ n = top ∨ n ∈ lower := by simpa using listed
  · exact Nat.not_le.mp (of_decide_eq_false ((Bool.not_eq_true' _).mp (unmet n in_higher)))
  · exact absurd above (lt_irrefl _)
  · exact absurd above (lt_asymm (List.rel_of_pairwise_cons from_top in_lower))

/-- The surge floor raises a target below it (R121, R133). -/
theorem floored_eq_max (w : Option Surge) (l : LevelId) :
    floored w l = match w with
      | some v => max l v.floor
      | none => l := by
  cases w with
  | none => rfl
  | some v =>
    simp only [floored]
    by_cases below : l.val < v.floor.val
    · rw [if_pos below, max_eq_right (Fin.le_def.mpr below.le)]
    · rw [if_neg below, max_eq_left (Fin.le_def.mpr (Nat.not_lt.mp below))]

/-! ## The step of the sectors (R116, step 2) -/

/-- The record of a sector after step 2, all figures read in the state after step 1. -/
def State.governedRecord (s : State) (t : SectorId) : Sector :=
  if (s.sector t).state = .disabled then s.sector t
  else boundarySector s.governor.activeTable s.governor.surge (s.occupancy t) (s.waitingCount t) (s.sector t)

/-- The LEVEL report of a sector whose broadcast values differ from those before the boundary (R126). -/
def State.governedReport (s : State) (before : Table LevelRow 8) (t : SectorId) : Option StatusReport :=
  if (s.sector t).state = .disabled ∨
      broadcast before (s.sector t).level = broadcast s.governor.activeTable (s.governedRecord t).level then none
  else some (s.levelReportAt (s.governedRecord t).level t)

/-- What a boundary reads beside a sector's record is none of what it writes. -/
theorem State.SameButSectors.figures (same : s.SameButSectors u) :
    u.governor = s.governor ∧ u.occupancy = s.occupancy ∧ u.waitingCount = s.waitingCount := by
  rw [same]
  exact ⟨rfl, rfl, rfl⟩

theorem State.governSector_eq_rewriteSector (before : Table LevelRow 8) (t : SectorId) (same : s.SameButSectors u)
    (unread : u.sector t = s.sector t) :
    u.governSector before t = u.rewriteSector s.governedRecord (s.governedReport before) t := by
  obtain ⟨governor, occupancy, waiting⟩ := same.figures
  simp only [State.governSector, State.levelReport_setSector, State.rewriteSector, State.governedReport, unread, governor,
    occupancy, waiting, same.levelReportAt]
  by_cases disabled : (s.sector t).state = .disabled
  · rw [if_pos disabled, if_pos (.inl disabled), State.governedRecord, if_pos disabled, ← unread, State.setSector_self]
    rfl
  · have record : s.governedRecord t = boundarySector s.governor.activeTable s.governor.surge (s.occupancy t) (s.waitingCount t)
        (s.sector t) := if_neg disabled
    rw [if_neg disabled, record]
    simp only [disabled, false_or]
    split <;> rfl

theorem governSectors_eq_foldl (before : Table LevelRow 8) (l : List SectorId) (s : State) :
    governSectors before l s = l.foldl (fun u t => u.governSector before t) s := by
  induction l generalizing s with
  | nil => rfl
  | cons t rest ih => exact ih _

theorem governSectors_sector (s : State) (before : Table LevelRow 8) (t : SectorId) :
    (governSectors before allSectors s).sector t = s.governedRecord t := by
  rw [governSectors_eq_foldl]
  exact foldl_allSectors_sector (fun _ _ same unread => State.governSector_eq_rewriteSector before _ same unread) t

theorem governSectors_eq (s : State) (before : Table LevelRow 8) :
    governSectors before allSectors s =
      { s with link := (s.offerAll (allSectors.filterMap (s.governedReport before))).link,
               sectors := (governSectors before allSectors s).sectors } := by
  rw [governSectors_eq_foldl]
  exact foldl_allSectors_eq fun _ _ same unread => State.governSector_eq_rewriteSector before _ same unread

/-! ## The boundary (R116) -/

/-- The state after step 1 of a boundary. -/
def State.copied (s : State) : State := { s with governor := s.governor.copyStaged }

/-- The state after step 2 of a boundary, before its pass. -/
def State.governed (s : State) : State := governSectors s.governor.activeTable allSectors s.copied

theorem State.governed_sector (s : State) (t : SectorId) : s.governed.sector t = s.copied.governedRecord t :=
  governSectors_sector s.copied s.governor.activeTable t

theorem State.governed_eq (s : State) :
    s.governed =
      { s with link := (s.offerAll (allSectors.filterMap (s.copied.governedReport s.governor.activeTable))).link,
               sectors := s.governed.sectors, governor := s.governor.copyStaged } := by
  have walked := governSectors_eq s.copied s.governor.activeTable
  rwa [State.offerAll_of_link_eq (s := s) (u := s.copied) rfl] at walked

theorem exec_epochBoundary_of_due (live : s.inReset = false) (due : 0 ≤ signedDiff s.localTime s.governor.nextBoundary) :
    exec .epochBoundary s = .next s.governed.pass := by
  have delivered : reached s.governor.nextBoundary s.localTime = true := decide_eq_true due
  simp only [exec, execEpochBoundary, State.live, live, Bool.false_eq_true, if_false, delivered, if_true]
  rfl

/-- The entries that name a sector, counted list by list (R117). -/
theorem State.waitingCount_eq (s : State) (t : SectorId) :
    s.waitingCount t = (s.emergency ++ s.priority ++ s.general).countP (fun e => decide (e.sector = t)) := by
  rw [List.countP_append, List.countP_append]
  rfl

theorem State.governedReport_eq (s : State) (before : Table LevelRow 8) (t : SectorId) :
    s.governedReport before t =
      let old := before.get (s.sector t).level
      let new := s.governor.activeTable.get (s.governedRecord t).level
      if (s.sector t).state = .disabled ∨
          ((s.sector t).level = (s.governedRecord t).level ∧ old.barPct = new.barPct ∧ old.barTime = new.barTime) then none
      else some (.level t (s.governedRecord t).level new.barPct new.barTime) := by
  simp only [State.governedReport, broadcast, rowOf, Prod.mk.injEq, State.levelReportAt]

/-- Settles O41: step 2 as a walk that rewrites each sector's record and offers its report, between the copy and the pass. -/
theorem epochBoundary : Obligations.EpochBoundary := by
  intro s live range due g table waits
  refine ⟨s.governed, fun t => ?records, ?whole, exec_epochBoundary_of_due live due⟩
  case records =>
    intro r load p
    rw [State.governed_sector, State.governedRecord]
    by_cases disabled : r.state = .disabled
    · rw [if_pos disabled]
      exact if_pos disabled
    · rw [if_neg disabled]
      obtain ⟨-, zero, -⟩ := range.stagedTable 0
      obtain ⟨met, unmet⟩ := tableTarget_highest (zero rfl) p
      refine ⟨tableTarget table p, floored g.surge (tableTarget table p), met, unmet, floored_eq_max _ _, ?_⟩
      refine (if_neg disabled).trans ?_
      rw [State.waitingCount_eq]
      rfl
  case whole =>
    intro due
    have reports : due = s.copied.governedReport g.activeTable := funext fun t => by
      rw [State.governedReport_eq]
      simp only [due, State.governed_sector]
      rfl
    rw [reports]
    exact s.governed_eq

end Sys2Proof.Machine
end

section
/-! SUPPORT. The repeat-caller table: the age test (R136), the entry of a key, the lookup (R137) and what recording a refusal
makes of the table (R141, R142). -/

namespace Sys2Proof.Machine

variable {s : State} {k : CallerKey} {r : RepeatEntry} {older newer : List RepeatEntry}

theorem State.withinWindow_iff (s : State) (r : RepeatEntry) :
    s.withinWindow r = true ↔
      0 ≤ signedDiff s.localTime r.last ∧ signedDiff s.localTime r.last < s.settings.repeatWindow * 1000 := by
  simp only [State.withinWindow, decide_eq_true_eq, Nat.cast_mul, Nat.cast_ofNat]

/-! ## The entry of a key -/

theorem State.repeatEntry_of_first (table : s.repeatTable = older ++ r :: newer) (absent : ∀ x ∈ older, x.key ≠ k)
    (key : r.key = k) : s.repeatEntry k = some r := by
  rw [State.repeatEntry, List.find?_eq_some_iff_append]
  exact ⟨beq_iff_eq.mpr key, older, newer, table, fun x hx => by simpa using absent x hx⟩

theorem State.repeatEntry_of_absent (absent : ∀ x ∈ s.repeatTable, x.key ≠ k) : s.repeatEntry k = none := by
  rw [State.repeatEntry, List.find?_eq_none]
  exact fun x hx => by simpa using absent x hx

/-! ## The lookup (R137) -/

theorem State.refusalCount_zero (s : State) : s.refusalCount 0 = 0 :=
  if_pos rfl

theorem State.refusalCount_of_absent (absent : ∀ x ∈ s.repeatTable, x.key ≠ k) : s.refusalCount k = 0 := by
  rw [State.refusalCount, State.repeatEntry_of_absent absent]
  exact ite_self 0

theorem State.refusalCount_of_entry (known : k ≠ 0) (entry : s.repeatEntry k = some r) :
    s.refusalCount k =
      if 0 ≤ signedDiff s.localTime r.last ∧ signedDiff s.localTime r.last < s.settings.repeatWindow * 1000 then r.count
      else 0 := by
  rw [State.refusalCount, if_neg known, entry]
  exact if_congr (s.withinWindow_iff r) rfl rfl

/-! ## The recording of a refusal (R141, R142) -/

theorem State.recordRefusal_zero (s : State) : s.recordRefusal 0 = s :=
  if_pos rfl

/-- The entry of the key leaves its place and stands at the tail, renewed (R141, cases 2 and 3). -/
theorem State.recordRefusal_of_entry (known : k ≠ 0) (table : s.repeatTable = older ++ r :: newer)
    (absent : ∀ x ∈ older, x.key ≠ k) (key : r.key = k) :
    s.recordRefusal k =
      { s with repeatTable :=
          older ++ newer ++ [⟨k, if s.withinWindow r then min (r.count + 1) 4 else 1, s.localTime⟩] } := by
  have erased : s.repeatTable.eraseP (fun x => x.key == k) = older ++ newer := by
    rw [table, List.eraseP_append_right _ (fun x hx => by simpa using absent x hx),
      List.eraseP_cons_of_pos (by simpa using key)]
  rw [State.recordRefusal, if_neg known, State.repeatEntry_of_first table absent key]
  dsimp only
  rw [erased]

theorem State.recordRefusal_of_absent (known : k ≠ 0) (absent : ∀ x ∈ s.repeatTable, x.key ≠ k) :
    s.recordRefusal k = { s with repeatTable := joinRepeat s.repeatTable ⟨k, 1, s.localTime⟩ } := by
  rw [State.recordRefusal, if_neg known, State.repeatEntry_of_absent absent]

theorem joinRepeat_eq (l : List RepeatEntry) (e : RepeatEntry) :
    joinRepeat l e = (if l.length < 128 then l else l.tail) ++ [e] := by
  rw [joinRepeat, List.drop_one]

end Sys2Proof.Machine
end

section
/-! PROOFS. The retry hint and the recording of a refusal (R137, R138, R141, R142). -/

namespace Sys2Proof.Machine

/-- Settles O19: the hint by what the lookup finds for the key, the recording by whether the table holds it. -/
theorem hintsAndRecording : Obligations.HintsAndRecording := by
  refine ⟨fun s k t count lookup => ?hint, fun s k => ⟨?unknown, ?renewed, ?joined⟩⟩
  case hint =>
    have counted : s.refusalCount k = count := by
      obtain ⟨rfl | absent, rfl⟩ | ⟨known, older, r, newer, table, absent, key, rfl⟩ := lookup
      · exact s.refusalCount_zero
      · exact State.refusalCount_of_absent absent
      · exact State.refusalCount_of_entry known (State.repeatEntry_of_first table absent key)
    rw [State.retryHint, counted]
    rfl
  case unknown =>
    rintro rfl
    exact s.recordRefusal_zero
  case renewed =>
    intro older r newer known table key absent inWindow
    have recorded := State.recordRefusal_of_entry known table (fun x hx => absent x (List.mem_append_left _ hx)) key
    refine ⟨fun recent => ?_, fun aged => ?_⟩
    · rwa [if_pos ((s.withinWindow_iff r).mpr recent)] at recorded
    · rwa [if_neg (mt (s.withinWindow_iff r).mp aged)] at recorded
  case joined =>
    intro known absent
    rw [State.recordRefusal_of_absent known absent, joinRepeat_eq]

end Sys2Proof.Machine
end

section
/-! SUPPORT. The 16-bit field of two octets, and the check register one step and one octet at a time (R173, R174). -/

namespace Sys2Proof.Machine

/-! ## The 16-bit field of two octets -/

theorem join2_xor (a b c d : Octet) : join2 a b ^^^ join2 c d = join2 (a ^^^ c) (b ^^^ d) := BitVec.xor_append

theorem join2_zero_eq_setWidth (o : Octet) : join2 0 o = o.setWidth 16 := (BitVec.setWidth_eq_append (by decide)).symm

theorem setWidth_shiftLeft_eq_join2 (o : Octet) : (o.setWidth 16) <<< 8 = join2 o 0 := by
  have low : (o.setWidth 16).extractLsb' 0 8 = o :=
    (BitVec.extractLsb'_setWidth_of_le (by decide)).trans BitVec.extractLsb'_eq_self
  rw [BitVec.shiftLeft_eq_concat_of_lt (by decide)]
  exact congrArg (join2 · 0) low

theorem join2_extractLsb' (x : BitVec 16) : join2 (x.extractLsb' 8 8) (x.extractLsb' 0 8) = x :=
  BitVec.extractLsb'_append_extractLsb' (w := 8) (len := 8)

/-! ## Steps of the register -/

theorem crcStep_eq_ite (r : BitVec 16) : crcStep r = if r.getLsbD 15 then (r <<< 1) ^^^ 0x1021 else r <<< 1 := by
  rw [crcStep, BitVec.msb_eq_getLsbD_last]

/-- As long as only zeros leave at the top, the generator is never combined and the steps are one shift. -/
theorem crcStep_iterate_of_leading_zeros {n : Nat} {r : BitVec 16} (zeros : ∀ i < n, r.getMsbD i = false) :
    crcStep^[n] r = r <<< n := by
  induction n with
  | zero => exact (BitVec.shiftLeft_zero r).symm
  | succ n ih =>
    have before : crcStep^[n] r = r <<< n := ih fun i hi => zeros i (Nat.lt_succ_of_lt hi)
    have top : (r <<< n).msb = false := by rw [BitVec.msb_shiftLeft, zeros n n.lt_succ_self]
    rw [Function.iterate_succ_apply', before, crcStep, top, if_neg Bool.false_ne_true, BitVec.shiftLeft_add]

theorem crcStep_iterate_join2_zero (lo : Octet) : crcStep^[8] (join2 0 lo) = join2 lo 0 := by
  have zeros : ∀ i < 8, (lo.setWidth 16).getMsbD i = false := fun i inHigh => by
    rw [BitVec.getMsbD_setWidth, decide_eq_false (by omega), Bool.false_and]
  rw [join2_zero_eq_setWidth, crcStep_iterate_of_leading_zeros zeros, setWidth_shiftLeft_eq_join2]

/-! ## An octet, and a list of octets -/

theorem crcOctet_eq_iterate (r : BitVec 16) (o : Octet) : crcOctet r o = crcStep^[8] (r ^^^ join2 o 0) := rfl

/-- The register's own high octet clears its high half, so eight plain shifts bring the low octet up. -/
theorem crcOctet_join2_high (hi lo : Octet) : crcOctet (join2 hi lo) hi = join2 lo 0 := by
  have cleared : join2 hi lo ^^^ join2 hi 0 = join2 0 lo := by
    rw [join2_xor, BitVec.xor_self, BitVec.ofNat_eq_ofNat, BitVec.xor_zero]
  rw [crcOctet_eq_iterate, cleared, crcStep_iterate_join2_zero]

theorem crc_append (l m : List Octet) : crc (l ++ m) = m.foldl crcOctet (crc l) := List.foldl_append

/-- Both octets of a register meet themselves in its high half: the first leaves the second there, the second leaves 0. -/
theorem foldl_crcOctet_octets2 (r : BitVec 16) : (octets2 r).foldl crcOctet r = 0 := by
  have first : crcOctet r (r.extractLsb' 8 8) = join2 (r.extractLsb' 0 8) 0 := by
    simpa only [join2_extractLsb'] using crcOctet_join2_high (r.extractLsb' 8 8) (r.extractLsb' 0 8)
  calc (octets2 r).foldl crcOctet r
    _ = crcOctet (crcOctet r (r.extractLsb' 8 8)) (r.extractLsb' 0 8) := rfl
    _ = crcOctet (join2 (r.extractLsb' 0 8) 0) (r.extractLsb' 0 8) := by rw [first]
    _ = join2 0 0 := crcOctet_join2_high _ _
    _ = 0 := rfl

end Sys2Proof.Machine
end

section
/-! PROOFS. The check sequence (R174). -/

namespace Sys2Proof.Machine

/-- Settles O8: the octet by the eight steps it stands for, the residue by the register's own octets. -/
theorem checkSequence : Obligations.CheckSequence := by
  refine ⟨rfl, fun l o => ?octet, ?checkValue, fun l => ?residue⟩
  case octet =>
    rw [← funext crcStep_eq_ite, setWidth_shiftLeft_eq_join2, crc_append]
    exact crcOctet_eq_iterate (crc l) o
  case checkValue => decide +kernel
  case residue => rw [crc_append, foldl_crcOctet_octets2]

end Sys2Proof.Machine
end

section
/-! PROOFS. AUDIT: the field checks of its pairs, and the comparison up to the first mismatch (R187, R188). -/

namespace Sys2Proof.Machine

variable {s : State} {t : SectorId}

/-! ## The field checks (R187) -/

theorem auditChecks_fault (f : AuditFields) :
    fieldFault (auditChecks f) = if 15 < f.sector.toNat then some 1 else fieldFault (auditPairChecks 1 f.pairs) :=
  fieldFault_cons (decide_eq_false_iff_not.trans not_le) rfl

/-- Pairs with their slots in range leave the fault to the pairs after them, numbered on. -/
theorem auditPairChecks_fault_append {before : List AuditPair} (rest : List AuditPair) (i : Nat)
    (inRange : ∀ q ∈ before, q.slot.toNat ≤ 23) :
    fieldFault (auditPairChecks i (before ++ rest)) = fieldFault (auditPairChecks (i + before.length) rest) := by
  induction before generalizing i with
  | nil => rfl
  | cons q before ih =>
    obtain ⟨head, tail⟩ := List.forall_mem_cons.mp inRange
    rw [List.cons_append, auditPairChecks, decide_eq_true head, fieldFault_cons_true, ih (i + 1) tail, List.length_cons,
      Nat.add_right_comm, Nat.add_assoc]

theorem auditPairChecks_fault_of_inRange {pairs : List AuditPair} (i : Nat) (inRange : ∀ q ∈ pairs, q.slot.toNat ≤ 23) :
    fieldFault (auditPairChecks i pairs) = none := by
  rw [← List.append_nil pairs, auditPairChecks_fault_append [] i inRange]
  rfl

theorem auditPairChecks_fault_cons {p : AuditPair} (later : List AuditPair) (i : Nat) (above : 23 < p.slot.toNat) :
    fieldFault (auditPairChecks i (p :: later)) = some (2 * i + 1) :=
  (fieldFault_cons (decide_eq_false_iff_not.trans not_le) rfl).trans (if_pos above)

theorem decideAudit_eq_elim {f : AuditFields} (count : 1 ≤ f.pairs.length ∧ f.pairs.length ≤ 12) (s : State) :
    decideAudit f s = (fieldFault (auditChecks f)).elim (s.pushReply (s.auditReply (toSector f.sector) f.pairs))
      (fun n => s.reject .audit .badField n 0) := by
  rw [decideAudit, if_pos count]
  cases fieldFault (auditChecks f) <;> rfl

/-! ## The comparison (R188) -/

theorem pairMatches_iff (x : Slot) (tag : Tag) :
    pairMatches x tag = true ↔ (∃ c, x.call? = some c ∧ c.tag = tag) ∨ (x.call? = none ∧ tag = 0) := by
  unfold pairMatches
  cases x.call? <;> simp

/-- Pairs that match are counted, and the comparison goes on with the pairs after them. -/
theorem State.auditFrom_append {before : List AuditPair} (rest : List AuditPair) (i : Nat)
    (agree : ∀ q ∈ before, pairMatches (s.slot t (toSlot q.slot)) q.tag = true) :
    s.auditFrom t i (before ++ rest) = s.auditFrom t (i + before.length) rest := by
  induction before generalizing i with
  | nil => rfl
  | cons q before ih =>
    obtain ⟨head, tail⟩ := List.forall_mem_cons.mp agree
    rw [List.cons_append, State.auditFrom, if_pos head, ih (i + 1) tail, List.length_cons, Nat.add_right_comm, Nat.add_assoc]

theorem State.auditReply_of_agreement {pairs : List AuditPair}
    (agree : ∀ q ∈ pairs, pairMatches (s.slot t (toSlot q.slot)) q.tag = true) :
    s.auditReply t pairs = .audited t pairs.length 0 none := by
  have compared : s.auditFrom t 0 pairs = (pairs.length, none) := by
    simpa only [List.append_nil, Nat.zero_add, State.auditFrom] using State.auditFrom_append [] 0 agree
  rw [State.auditReply, compared]

theorem State.auditReply_of_mismatch {before : List AuditPair} {p : AuditPair} (later : List AuditPair)
    (agree : ∀ q ∈ before, pairMatches (s.slot t (toSlot q.slot)) q.tag = true)
    (differs : ¬pairMatches (s.slot t (toSlot p.slot)) p.tag = true) :
    s.auditReply t (before ++ p :: later) =
      .audited t before.length (before.length + 1)
        (some ((s.slot t (toSlot p.slot)).code, ((s.slot t (toSlot p.slot)).call?.map Call.tag).getD 0)) := by
  have compared : s.auditFrom t 0 (before ++ p :: later) = (before.length, some (s.slot t (toSlot p.slot))) := by
    rw [State.auditFrom_append _ 0 agree, Nat.zero_add, State.auditFrom, if_neg differs]
  rw [State.auditReply, compared]

/-- Settles O42: by the sector check, then by the first pair with a slot out of range, then by the first mismatch. -/
theorem auditComparesPairs : Obligations.AuditComparesPairs := by
  intro s f takes least most t answered agrees
  have answer : exec (.audit (.ok f)) s = .next (decideAudit f s.afterTaking) := exec_audit_takes takes
  rw [decideAudit_eq_elim ⟨least, most⟩, auditChecks_fault] at answer
  refine ⟨fun above => ?sector, fun below => ?_⟩
  case sector =>
    rw [if_pos above] at answer
    exact answer
  rw [if_neg below.not_gt] at answer
  refine ⟨fun before p later pairs inRange above => ?slot, fun inRange => ?_⟩
  case slot =>
    rw [pairs, auditPairChecks_fault_append _ 1 inRange, auditPairChecks_fault_cons later _ above, Nat.add_comm 1] at answer
    exact answer
  rw [auditPairChecks_fault_of_inRange 1 inRange] at answer
  have replies : ∀ r, s.afterTaking.auditReply t f.pairs = r → answered r := fun r reply => reply ▸ answer
  have agrees_iff : ∀ q, pairMatches (s.afterTaking.slot t (toSlot q.slot)) q.tag = true ↔ agrees q :=
    fun q => pairMatches_iff (s.slot t (toSlot q.slot)) q.tag
  refine ⟨fun all => ?agreement, fun before p later pairs agree differs => ?mismatch⟩
  case agreement => exact replies _ (State.auditReply_of_agreement fun q hq => (agrees_iff q).mpr (all q hq))
  case mismatch =>
    have reply := State.auditReply_of_mismatch later (fun q hq => (agrees_iff q).mpr (agree q hq))
      (mt (agrees_iff p).mp differs)
    rw [← pairs, State.slot_congr s.afterTaking_slots] at reply
    refine replies _ (reply.trans (congrArg (Reply.audited t _ _ <| some ·) ?_))
    cases s.slot t (toSlot p.slot) <;> rfl

end Sys2Proof.Machine
end

section
/-! PROOFS. The screening laws say nothing of the reason in a held copy (R21, R36), so one step does not keep them. -/

namespace Sys2Proof.Machine

/-- Entry 0 enabled and held, its held copy a BAR with the reason 0 that no SCREEN-SET can write (R29). -/
def barZeroScreening : Screening :=
  { entries := (Table.replicate 32 ScreenEntry.powerOn).set 0
      { content := { enabled := true, matchValue := 0, mask := 0, action := .assign .general true }, hits := 0 }
    hold := some ⟨0, { enabled := true, matchValue := 0, mask := 0, action := .bar 0 }⟩ }

/-- A part about to take a RESTART, with that screening table. -/
def barZeroHeld : State :=
  { State.reset with
    screening := barZeroScreening
    link := { LinkPort.powerOn with requestQueue := (frameOf (.restart (.ok ()))).toList }
    pending := [.restart (.ok ())] }

/-- The stored action of entry 0 is an ASSIGN, so every stored BAR carries a reason of 1..15. -/
theorem barZeroHeld_screenLawful : barZeroHeld.ScreenLawful where
  reduced := by decide
  reason := by decide
  held := by
    rintro h ⟨⟩
    decide

/-- RESTART closes the hold and stores the held copy's action (R36). -/
theorem step_barZeroHeld :
    ∃ t, step barZeroHeld = .next t ∧ (t.screenEntry 0).content.action = .bar 0 :=
  ⟨_, rfl, by decide⟩

/-- Refutes O59: the screening laws bound the reason of a stored BAR, not of a held copy's, and RESTART stores a held copy's action.
From a lawful state with reason 0 in the held copy a RESTART stores a BAR of reason 0. -/
theorem not_stepKeepsScreeningAndTheGuardLock : ¬ Obligations.StepKeepsScreeningAndTheGuardLock := by
  intro keeps
  obtain ⟨t, next, stored⟩ := step_barZeroHeld
  have lawful : t.ScreenLawful := (keeps _ t barZeroHeld_screenLawful next).1
  exact absurd (lawful.reason 0 0 stored) (by decide)

end Sys2Proof.Machine
end

section
/-! SUPPORT. What a command's decision and the part's own events do to the state, said once: the works that they are made of.
Each invariant of every step is then a case analysis over the works. -/

namespace Sys2Proof.Machine

/-! ## What the works write -/

/-- A waiting entry with another merged count, escalation or deadline condition: it is not watched anew and no escalation point
is set (R42, R85, R109, R154). -/
structure Waiting.Touched (x y : Waiting) : Prop where
  tag : y.tag = x.tag
  cls : y.cls = x.cls
  key : y.key = x.key
  preemptible : y.preemptible = x.preemptible
  earmark : y.earmark = x.earmark
  merged : x.merged ≤ 255 → y.merged ≤ 255
  watch : y.watch = .watched → x.watch = .watched ∧ y.deadline = x.deadline
  point : ∀ p, y.escalationPoint = some p → x.escalationPoint = some p

theorem Waiting.Touched.refl (x : Waiting) : x.Touched x := ⟨rfl, rfl, rfl, rfl, rfl, id, fun h => ⟨h, rfl⟩, fun _ => id⟩

/-- A DRAINING sector with no occupied slot becomes DRAINED (R17), its report apart. -/
def State.settled (s : State) (t : SectorId) : State :=
  if (s.sector t).state = .draining ∧ s.occupancy t = 0 then s.setSector t { s.sector t with state := .drained } else s

/-- The earmarks that an accepted SECTOR-SET drops (R14, item 4). -/
def State.cutOff (s : State) (t : SectorId) (f : SectorSetFields) : List Place :=
  if f.capacity.toNat < (s.sector t).capacity then s.cutEarmarks t f.capacity.toNat else []

/-- The sector and slot records of an accepted SECTOR-SET, with the earmarks dropped (R11 to R14), its LEVEL report apart. -/
def State.refit (s : State) (t : SectorId) (f : SectorSetFields) : State :=
  dropEarmarks (s.cutOff t f)
    (resizeSlots (decide ((s.sector t).state = .disabled) || decide ((s.sector t).capacity < f.capacity.toNat))
      (decide (f.capacity.toNat < (s.sector t).capacity)) f.capacity.toNat t allSlots
      (s.setSector t ((s.sector t).rewritten f s.governor.surge)))

/-- The surge window opened and the sectors raised to its floor (R129), the LEVEL reports apart. -/
def State.raised (s : State) (w : Surge) : State :=
  { s with sectors := (s.raisedWith w).sectors, governor := { s.governor with surge := some w } }

/-! ## The works -/

/-- One work of a decision, or of an event of the arbiter, the preemption unit, the sweep or the governor. A premise under a
hypothesis on the state says what the work finds in a state that meets it. -/
inductive State.Work : State → State → Prop
  /-- An action report is placed where there is room (R159, R160). -/
  | place {s : State} (r : ActionReport) (room : s.link.actionLane.length < 48) : Work s (s.placeAction r)
  /-- A status report is offered (R164). -/
  | offer {s : State} (r : StatusReport) : Work s (s.offerStatus r)
  /-- The marks and the signal fields (R75, R94). -/
  | marks {s : State} (service pass retrySignal passSignal : Bool) :
      Work s { s with serviceDeferred := service, passDeferred := pass, retrySignal := retrySignal, passSignal := passSignal }
  /-- Entries of a list are touched. -/
  | touch {s : State} (c : CallClass) (g : Waiting → Waiting) (touched : ∀ x : Waiting, x.Touched (g x)) :
      Work s (s.setWaiting c ((s.waiting c).map g))
  /-- The vacate expiries pending for room are delivered again (R154). -/
  | signalSlots {s : State} : Work s { s with slots := s.slots.map (fun row => row.map Slot.signal) }
  /-- A sector's tokens, pressure, level and votes (R53, R117 to R124). -/
  | govern {s : State} (t : SectorId) (r : Sector)
      (shape : r.state = (s.sector t).state ∧ r.capacity = (s.sector t).capacity)
      (range : s.InRange → r.InRange t ∧ ∀ w, s.governor.surge = some w → r.state ≠ .disabled → w.floor ≤ r.level) :
      Work s (s.setSector t r)
  /-- A preemption is started (R97). -/
  | preempt {s : State} {e : Waiting} {t : SectorId} {n : SlotId} {c : Call} (victim : s.HoldsVictim e.escalated t n c)
      (plain : e.earmark = none) (mem : (s.emergency.map Waiting.tag).Nodup → e ∈ s.emergency) :
      Work s ((s.setSlot t n (.vacating c (s.firstOrder e))).setEarmark e.tag (some (t, n)))
  /-- The earmark on a slot is dropped (R111). -/
  | unmark {s : State} {t : SectorId} {n : SlotId} {c : Call} {v : Vacate} {b : Tag} (slot : s.slot t n = .vacating c v)
      (beneficiary : v.beneficiary = some b) :
      Work s ((s.setSlot t n (.vacating c { v with beneficiary := none })).setEarmark b none)
  /-- A preemption is withdrawn (R103). -/
  | withdraw {s : State} {e : Waiting} {t : SectorId} {n : SlotId} {c : Call} {v : Vacate} (mem : e ∈ s.allWaiting)
      (mark : e.earmark = some (t, n)) (slot : s.slot t n = .vacating c v) :
      Work s ((s.setSlot t n (.active c)).setEarmark e.tag none)
  /-- The lone side of an earmark is dropped (log 15). -/
  | unmarkEntry {s : State} {e : Waiting} {t : SectorId} {n : SlotId} (mem : e ∈ s.allWaiting)
      (mark : e.earmark = some (t, n)) (slot : ∀ c v, s.slot t n ≠ .vacating c v) : Work s (s.setEarmark e.tag none)
  /-- A FREE slot, or one VACATING for it, is given to a waiting entry (R70, R99). -/
  | grant {s : State} {e x : Waiting} {t : SectorId} {n : SlotId} (mem : x ∈ s.allWaiting)
      (same : x.tag = e.tag ∧ x.cls = e.cls)
      (place : (s.slot t n = .free ∧ (s.sector t).state = .opened ∧ (x ∈ s.emergency → x.earmark = none)) ∨
        ∃ c v, s.slot t n = .vacating c v ∧ v.beneficiary = some e.tag) :
      Work s ((s.setSlot t n (.active (s.callOf e))).removeWaiting e.cls e.tag)
  /-- A slot loses its call and its earmark (R8, R79, R101). -/
  | empty {s : State} {t : SectorId} {n : SlotId} {c : Call} (call : (s.slot t n).call? = some c) :
      Work s (((s.clearBeneficiary (s.slot t n).beneficiary?).setSlot t n (s.releasedSlot t n)).settled t)
  /-- A VACATING slot is given up (R106). -/
  | giveUp {s : State} {t : SectorId} {n : SlotId} {c : Call} {v : Vacate} (slot : s.slot t n = .vacating c v) :
      Work s ((s.setSlot t n (.stuck c)).clearBeneficiary v.beneficiary)
  /-- The order of a VACATING slot is renewed, or its expiry is declined (R105, R107). -/
  | order {s : State} {t : SectorId} {n : SlotId} {c : Call} {v v' : Vacate} (slot : s.slot t n = .vacating c v)
      (beneficiary : v'.beneficiary = v.beneficiary)
      (watch : v'.watch = .watched → v'.deadline = after s.localTime s.settings.vacateTimeout) :
      Work s (s.setSlot t n (.vacating c v'))
  /-- A FREE slot of an OPEN sector is given to a call attempt (R58). -/
  | direct {s : State} {t : SectorId} {n : SlotId} {c : Call} (free : s.slot t n = .free)
      (opened : (s.sector t).state = .opened) (nonzero : c.tag ≠ 0) (fresh : ¬s.Holds c.tag)
      (flag : c.cls = .emergency → c.preemptible = false) : Work s (s.setSlot t n (.active c))
  /-- A call attempt joins its list, at the place of the oldest entry where it is the general list (R44, R56). -/
  | join {s : State} {f : AdmitFields} {c : CallClass} {pre : Bool} {l : List Waiting}
      (list : (s.waiting c = l ∧ l.length < listPlaces c) ∨ (c = .general ∧ ∃ o, s.general = o :: l))
      (nonzero : f.tag ≠ 0) (fresh : ¬s.Holds f.tag)
      (key : c = .emergency → f.key = 0 ∨ ∀ e ∈ s.emergency, e.key ≠ f.key) :
      Work s (s.setWaiting c (l ++ [s.newEntry f c pre]))
  /-- A waiting entry leaves its list, its earmark dropped (R83, R84). -/
  | discard {s : State} {c : CallClass} {e : Waiting} (mem : e ∈ s.waiting c) : Work s (s.discardEntry c e)
  /-- The records of an accepted SECTOR-SET (R11 to R14). -/
  | refit {s : State} {f : SectorSetFields} (accepted : s.AcceptsSectorSet f) : Work s (s.refit (toSector f.sector) f)
  /-- An OPEN sector begins to drain (R16, R17). -/
  | drain {s : State} {t : SectorId} (opened : (s.sector t).state = .opened) : Work s ((s.draining t).settled t)
  /-- A DRAINING or DRAINED sector becomes OPEN (R18). -/
  | resume {s : State} {t : SectorId} (leaving : (s.sector t).state = .draining ∨ (s.sector t).state = .drained) :
      Work s (s.setSector t { s.sector t with state := .opened })
  /-- An empty sector becomes DISABLED (R19). -/
  | disable {s : State} {t : SectorId} (idle : (s.sector t).state = .drained ∨ s.occupancy t = 0) : Work s (s.disable t)
  /-- A refusal is recorded (R141). -/
  | refusal {s : State} (k : CallerKey) : Work s (s.recordRefusal k)
  /-- An EMERGENCY-FULL refusal is counted (R62). -/
  | emergencyFull {s : State} : Work s { s with emergencyFull := bump s.emergencyFull }
  /-- The screening table is written, its hit counts within bounds (R28 to R34). -/
  | screen {s : State} (table : Screening)
      (hits : (∀ i, (s.screenEntry i).hits ≤ 65535) → ∀ i, (table.entries.get i).hits ≤ 65535) :
      Work s { s with screening := table }
  /-- The guard lock is set (R185). -/
  | lock {s : State} : Work s { s with guardLock := true }
  /-- A row of the staged table is replaced (R114). -/
  | stageRow {s : State} {f : LevelSetFields} (accepted : fieldFault (levelSetChecks f) = none) :
      Work s (s.stageRow (toLevel f.level) (writtenRow f))
  /-- The timer settings are written (R148). -/
  | timers {s : State} {f : TimerSetFields} (accepted : fieldFault (timerSetChecks f) = none) : Work s (s.applyTimerSet f)
  /-- The staged copies become active at a boundary that is due (R115, R116). -/
  | copy {s : State} (due : reached s.governor.nextBoundary s.localTime = true) :
      Work s { s with governor := s.governor.copyStaged }
  /-- The surge window opens (R129). -/
  | openSurge {s : State} {w : Surge} {seconds : Nat} (range : 1 ≤ seconds ∧ seconds ≤ 3600)
      (close : w.close = after s.localTime (seconds * 1000)) (notice : w.noticeDue = true → 10 < seconds) :
      Work s (s.raised w)
  /-- The closing notice is given (R131). -/
  | notice {s : State} {w : Surge} (opened : s.governor.surge = some w) :
      Work s (s.setSurge (some { w with noticeDue := false }))
  /-- The surge window is extended (R130). -/
  | extend {s : State} {w : Surge} {seconds : Nat} (opened : s.governor.surge = some w)
      (range : 1 ≤ seconds ∧ seconds ≤ 3600) : Work s (s.setSurge (some (w.extend s.localTime seconds)))
  /-- The surge window closes (R132). -/
  | closeSurge {s : State} : Work s (s.setSurge none)
  /-- The effects of RESTART (R197). -/
  | restart {s : State} : Work s s.restart

/-- Works one after the other. -/
abbrev State.Works : State → State → Prop := Relation.ReflTransGen State.Work

end Sys2Proof.Machine
end

section
/-! SUPPORT. What every work leaves alone; the works that the shared operations are made of: the pass, the service of slots, the
release and the end of a waiting entry. -/

namespace Sys2Proof.Machine

variable {s u : State}

/-! ## What works leave alone -/

/-- What no decision and no event but those of the link, a reset and local time writes. -/
structure State.Untouched (s t : State) : Prop where
  localTime : t.localTime = s.localTime
  inReset : t.inReset = s.inReset
  choices : t.choices = s.choices
  pending : t.pending = s.pending
  replyQueue : t.link.replyQueue = s.link.replyQueue
  requestQueue : t.link.requestQueue = s.link.requestQueue

theorem State.Untouched.refl (s : State) : s.Untouched s := ⟨rfl, rfl, rfl, rfl, rfl, rfl⟩

theorem State.Untouched.trans {s t u : State} (a : s.Untouched t) (b : t.Untouched u) : s.Untouched u where
  localTime := b.localTime.trans a.localTime
  inReset := b.inReset.trans a.inReset
  choices := b.choices.trans a.choices
  pending := b.pending.trans a.pending
  replyQueue := b.replyQueue.trans a.replyQueue
  requestQueue := b.requestQueue.trans a.requestQueue

theorem State.Fixed.untouched {s t : State} (h : s.Fixed t) : s.Untouched t :=
  ⟨h.localTime, h.inReset, h.choices, h.pending, h.replyQueue, h.requestQueue⟩

theorem State.clearBeneficiary_fixed (s : State) (b : Option Tag) : s.Fixed (s.clearBeneficiary b) := by
  cases b with
  | none => exact .refl s
  | some tag => exact s.setEarmark_fixed tag none

theorem State.settled_fixed (s : State) (t : SectorId) : s.Fixed (s.settled t) := by
  unfold State.settled
  split
  · exact s.setSector_fixed t _
  · exact .refl s

theorem State.refit_fixed (s : State) (t : SectorId) (f : SectorSetFields) : s.Fixed (s.refit t f) :=
  ((s.setSector_fixed t _).trans (resizeSlots_fixed _ _ _ _ _ _)).trans (dropEarmarks_fixed _ _)

theorem State.draining_fixed (s : State) (t : SectorId) : s.Fixed (s.draining t) :=
  (s.setSector_fixed t _).trans (dropEarmarks_fixed _ _)

theorem State.disable_fixed (s : State) (t : SectorId) : s.Fixed (s.disable t) :=
  (s.setSector_fixed t _).trans (resizeSlots_fixed _ _ _ _ _ _)

theorem State.discardEntry_fixed (s : State) (c : CallClass) (e : Waiting) : s.Fixed (s.discardEntry c e) :=
  (s.dropEarmarkOf_fixed e).trans (State.setWaiting_fixed _ _ _)

theorem State.recordRefusal_untouched (s : State) (k : CallerKey) : s.Untouched (s.recordRefusal k) := by
  unfold State.recordRefusal
  split
  · exact .refl s
  · split <;> exact ⟨rfl, rfl, rfl, rfl, rfl, rfl⟩

theorem State.restartScreening_frame (s : State) :
    s.restartScreening = { s with screening := s.restartScreening.screening } := by
  unfold State.restartScreening
  cases s.screening.hold <;> rfl

theorem State.restart_untouched (s : State) : s.Untouched s.restart := by
  rw [State.restart, State.restartScreening_frame]
  exact ⟨rfl, rfl, rfl, rfl, rfl, rfl⟩

theorem State.Work.untouched (work : s.Work u) : s.Untouched u := by
  cases work with
  | offer r => exact (s.offerStatus_fixed r).untouched
  | touch c g => exact (s.setWaiting_fixed c _).untouched
  | grant => exact ((s.setSlot_fixed _ _ _).trans (State.setWaiting_fixed _ _ _)).untouched
  | empty =>
    exact (((s.clearBeneficiary_fixed _).trans (State.setSlot_fixed _ _ _ _)).trans (State.settled_fixed _ _)).untouched
  | giveUp => exact ((s.setSlot_fixed _ _ _).trans (State.clearBeneficiary_fixed _ _)).untouched
  | join => exact (s.setWaiting_fixed _ _).untouched
  | discard => exact (s.discardEntry_fixed _ _).untouched
  | refit => exact (s.refit_fixed _ _).untouched
  | drain => exact ((s.draining_fixed _).trans (State.settled_fixed _ _)).untouched
  | disable => exact (s.disable_fixed _).untouched
  | refusal k => exact s.recordRefusal_untouched k
  | restart => exact s.restart_untouched
  | openSurge => constructor <;> simp only [State.raised]
  | _ => exact ⟨rfl, rfl, rfl, rfl, rfl, rfl⟩

theorem State.Works.untouched (works : s.Works u) : s.Untouched u := by
  induction works with
  | refl => exact .refl s
  | tail _ work ih => exact ih.trans work.untouched

/-! ## Reports -/

theorem State.placeAction_works (r : ActionReport) (room : s.freePlaces ≠ 0) : s.Works (s.placeAction r) :=
  .single (.place r (by simpa [State.freePlaces_eq_zero_iff] using room))

theorem State.offerAll_works (s : State) (l : List StatusReport) : s.Works (s.offerAll l) := by
  induction l generalizing s with
  | nil => exact .refl
  | cons r rest ih => exact .head (.offer r) (ih _)

/-! ## The victim-search pass (R93) -/

theorem State.holdsVictim_of_searchVictim {e : Waiting} {t : SectorId} {n : SlotId} {c : Call}
    (found : s.searchVictim e = some (t, n, c)) : s.HoldsVictim e.escalated t n c := by
  obtain ⟨u, -, at_u⟩ := List.exists_of_findSome?_eq_some (State.searchVictim_eq s e ▸ found)
  rw [State.victimFor] at at_u
  split at at_u
  next opened =>
    obtain ⟨v, victim, same⟩ := Option.map_eq_some_iff.mp at_u
    obtain ⟨rfl, rfl⟩ : u = t ∧ v = (n, c) := by simpa using same
    exact (State.victimIn_first (by simpa [State.isOpen] using opened) victim).1
  next => simp at at_u

theorem State.mem_updateEmergency_of_ne {e : Waiting} {tag : Tag} (g : Waiting → Waiting) (mem : e ∈ s.emergency)
    (ne : e.tag ≠ tag) : e ∈ (s.updateEmergency tag g).emergency :=
  List.mem_map.mpr ⟨e, mem, if_neg ne⟩

theorem State.startPreemption_works {e : Waiting} {t : SectorId} {n : SlotId} {c : Call}
    (found : s.searchVictim e = some (t, n, c)) (plain : e.earmark = none) (room : s.freePlaces ≠ 0)
    (mem : (s.emergency.map Waiting.tag).Nodup → e ∈ s.emergency) : s.Works (s.startPreemption e t n c) :=
  .head (.preempt (State.holdsVictim_of_searchVictim found) plain mem) (State.placeAction_works _ room)

theorem passWalk_works (l : List Waiting) (s : State)
    (listed : (s.emergency.map Waiting.tag).Nodup → (l.map Waiting.tag).Nodup ∧ ∀ x ∈ l, x ∈ s.emergency) :
    s.Works (passWalk l s) := by
  induction l generalizing s with
  | nil => exact .refl
  | cons e rest ih =>
    have later : (s.emergency.map Waiting.tag).Nodup → (rest.map Waiting.tag).Nodup ∧ ∀ x ∈ rest, x ∈ s.emergency :=
      fun distinct => ⟨(List.nodup_cons.mp (listed distinct).1).2, fun x hx => (listed distinct).2 x (.tail _ hx)⟩
    obtain ⟨_, h⟩ | ⟨_, _, h⟩ | ⟨_, _, _, _, h⟩ | ⟨t, n, c, plain, found, room, h⟩ := passWalk_cons_cases e rest s <;> rw [h]
    · exact ih s later
    · exact ih s later
    · exact .single (.marks s.serviceDeferred true s.retrySignal s.passSignal)
    · refine (State.startPreemption_works found plain room fun distinct => (listed distinct).2 e (.head _)).trans (ih _ ?_)
      rw [State.startPreemption_tags]
      refine fun distinct => ⟨(later distinct).1, fun x hx => ?_⟩
      have ne : x.tag ≠ e.tag := fun same =>
        (List.nodup_cons.mp (listed distinct).1).1 (same ▸ List.mem_map_of_mem hx)
      exact State.mem_updateEmergency_of_ne _ ((later distinct).2 x hx) ne

theorem State.pass_works (s : State) : s.Works s.pass :=
  .head (.marks s.serviceDeferred false s.retrySignal s.passSignal)
    (passWalk_works s.emergency _ fun distinct => ⟨distinct, fun _ => id⟩)

theorem State.passIf_works (s : State) (b : Bool) : s.Works (s.passIf b) := by
  cases b with
  | false => exact .refl
  | true => exact s.pass_works

/-! ## Freed-slot service (R67 to R72) -/

theorem State.mem_allWaiting {e : Waiting} : e ∈ s.allWaiting ↔ ∃ c, e ∈ s.waiting c := by
  simp only [State.allWaiting, List.mem_append]
  constructor
  · rintro ((h | h) | h)
    exacts [⟨.emergency, h⟩, ⟨.priority, h⟩, ⟨.general, h⟩]
  · rintro ⟨_ | _ | _, h⟩
    exacts [.inl (.inl h), .inl (.inr h), .inr h]

theorem State.candidate_mem {e : Waiting} {t : SectorId} (stands : s.candidate t = some e) : e ∈ s.allWaiting := by
  obtain ⟨c, older, newer, candidate⟩ := State.candidate_eq_some_iff.mp stands
  exact State.mem_allWaiting.mpr ⟨c, by simp [candidate.waiting_eq]⟩

/-- Once the entry's side of its earmark is cleared the entry waits on, and without an earmark where it is an emergency entry. -/
theorem State.mem_setEarmark_none {e : Waiting} (mem : e ∈ s.allWaiting) :
    ∃ x ∈ (s.setEarmark e.tag none).allWaiting, (x.tag = e.tag ∧ x.cls = e.cls) ∧
      (x ∈ (s.setEarmark e.tag none).emergency → x.earmark = none) := by
  have cleared : ∀ x ∈ (s.setEarmark e.tag none).emergency, x.tag = e.tag → x.earmark = none := by
    intro x hx same
    obtain ⟨y, -, rfl⟩ := List.mem_map.mp hx
    by_cases tag : y.tag = e.tag
    · rw [if_pos tag]
    · rw [if_neg tag] at same
      exact absurd same tag
  by_cases urgent : e ∈ s.emergency
  · have moved : { e with earmark := none } ∈ (s.setEarmark e.tag none).emergency :=
      List.mem_map.mpr ⟨e, urgent, if_pos rfl⟩
    exact ⟨_, State.mem_allWaiting.mpr ⟨.emergency, moved⟩, ⟨rfl, rfl⟩, fun _ => rfl⟩
  · have kept : e ∈ (s.setEarmark e.tag none).allWaiting := by
      simp only [State.allWaiting, List.mem_append] at mem ⊢
      exact mem.imp_left fun h => .inr (h.resolve_left urgent)
    exact ⟨e, kept, ⟨rfl, rfl⟩, fun h => cleared e h rfl⟩

theorem State.grantWaiting_works {e x : Waiting} {t : SectorId} {n : SlotId} (mem : x ∈ s.allWaiting)
    (same : x.tag = e.tag ∧ x.cls = e.cls)
    (place : (s.slot t n = .free ∧ (s.sector t).state = .opened ∧ (x ∈ s.emergency → x.earmark = none)) ∨
      ∃ c v, s.slot t n = .vacating c v ∧ v.beneficiary = some e.tag)
    (room : s.link.actionLane.length < 48) : s.Works (s.grantWaiting t n e) := by
  refine .head (.grant mem same place) (.single (.place _ ?_))
  rw [State.removeWaiting, State.setWaiting_link]
  exact room

/-- The withdrawal and the grant of a served slot (R70): two places are free where a WITHDRAW is to be placed. -/
theorem State.serve_works {e : Waiting} {t : SectorId} {n : SlotId} (free : s.slot t n = .free)
    (opened : (s.sector t).state = .opened) (mem : e ∈ s.allWaiting) (room : placesNeeded e ≤ s.freePlaces) :
    s.Works ((s.withdraw e).grantWaiting t n e) := by
  obtain ⟨plain, h⟩ | ⟨u, m, c, v, mark, slot, h⟩ | ⟨u, m, mark, slot, h⟩ := s.withdraw_cases e <;> rw [h]
  · refine State.grantWaiting_works mem ⟨rfl, rfl⟩ (.inl ⟨free, opened, fun _ => plain⟩) ?_
    simp only [placesNeeded, plain, State.freePlaces, Config.actionPlaces] at room
    simp at room
    omega
  · have two : s.link.actionLane.length + 1 < 48 := by
      simp [placesNeeded, mark, State.freePlaces, Config.actionPlaces] at room
      omega
    obtain ⟨x, hx, same, cleared⟩ := State.mem_setEarmark_none (s := s.setSlot u m (.active c)) mem
    have elsewhere : ((s.setSlot u m (.active c)).setEarmark e.tag none).slot t n = .free := by
      rw [State.slot_setEarmark, State.slot_setSlot]
      split
      next here =>
        obtain ⟨rfl, rfl⟩ := here
        rw [slot] at free
        cases free
      next => exact free
    refine .head (.withdraw mem mark slot) (.head (.place (.withdraw c.tag (u, m)) (Nat.lt_of_succ_lt two)) ?_)
    refine State.grantWaiting_works (x := x) hx same (.inl ⟨elsewhere, opened, cleared⟩) ?_
    simpa [State.placeAction] using two
  · obtain ⟨x, hx, same, cleared⟩ := State.mem_setEarmark_none mem
    refine .head (.unmarkEntry mem mark slot) (State.grantWaiting_works hx same (.inl ⟨free, opened, cleared⟩) ?_)
    simp [placesNeeded, mark, State.freePlaces, Config.actionPlaces] at room
    simp
    omega

theorem State.serveSlot_works (s : State) (t : SectorId) (n : SlotId) : s.Works (s.serveSlot t n).state := by
  obtain ⟨_, h⟩ | ⟨_, _, _, h⟩ | ⟨e, _, _, _, _, h⟩ | ⟨e, free, opened, stands, room, h⟩ := s.serveSlot_cases t n <;> rw [h]
  · exact .single (.marks true s.passDeferred s.retrySignal s.passSignal)
  · exact State.serve_works free (by simpa [State.isOpen] using opened) (State.candidate_mem stands) room

theorem serveWalk_works (l : List Place) (s : State) : s.Works (serveWalk l s) := by
  induction l generalizing s with
  | nil => exact .refl
  | cons p rest ih =>
    simp only [serveWalk]
    split
    · exact s.serveSlot_works p.1 p.2
    · exact (s.serveSlot_works p.1 p.2).trans (ih _)

/-! ## A slot that loses its call (R8, R79, R101) -/

theorem State.drainedTest_eq (s : State) (t : SectorId) :
    s.drainedTest t = if (s.sector t).state = .draining ∧ s.occupancy t = 0 then (s.settled t).offerStatus (.drained t)
      else s.settled t := by
  unfold State.drainedTest State.settled
  split <;> rfl

theorem State.settled_works_drainedTest (s : State) (t : SectorId) : (s.settled t).Works (s.drainedTest t) := by
  rw [State.drainedTest_eq]
  split
  · exact .single (.offer _)
  · exact .refl

theorem State.settled_of_not_draining {t : SectorId} (other : (s.sector t).state ≠ .draining) : s.settled t = s :=
  if_neg fun h => other h.1

@[simp] theorem State.clearBeneficiary_sector (s : State) (b : Option Tag) (t : SectorId) :
    (s.clearBeneficiary b).sector t = s.sector t := by
  cases b <;> rfl

@[simp] theorem State.clearBeneficiary_slot (s : State) (b : Option Tag) (t : SectorId) (n : SlotId) :
    (s.clearBeneficiary b).slot t n = s.slot t n := by
  cases b <;> rfl

/-- A slot is freed, its beneficiary's side of the earmark cleared before. -/
theorem State.freeSlot_works {t : SectorId} {n : SlotId} {c : Call} (call : (s.slot t n).call? = some c) :
    s.Works ((s.clearBeneficiary (s.slot t n).beneficiary?).freeSlot t n) := by
  have emptied := State.Work.empty call
  have released : (s.clearBeneficiary (s.slot t n).beneficiary?).releasedSlot t n = s.releasedSlot t n := by
    simp [State.releasedSlot]
  simp only [State.freeSlot, released, State.clearBeneficiary_sector]
  generalize e : (s.clearBeneficiary (s.slot t n).beneficiary?).setSlot t n (s.releasedSlot t n) = u at emptied
  have sector : u.sector t = s.sector t := by rw [← e]; simp
  cases state : (s.sector t).state with
  | draining => exact .head emptied (State.settled_works_drainedTest u t)
  | opened =>
    rw [State.settled_of_not_draining (by simp [sector, state])] at emptied
    exact .head emptied (u.serveSlot_works t n)
  | drained =>
    rw [State.settled_of_not_draining (by simp [sector, state])] at emptied
    exact .single emptied
  | disabled =>
    rw [State.settled_of_not_draining (by simp [sector, state])] at emptied
    exact .single emptied

theorem State.setEarmark_of_absent {b : Tag} (absent : s.entryIn .emergency b = none) (m : Option Place) :
    s.setEarmark b m = s := by
  have ne : ∀ e ∈ s.emergency, ¬e.tag = b := by simpa [State.entryIn, State.waiting] using absent
  have same : s.emergency.map (fun e => if e.tag = b then { e with earmark := m } else e) = s.emergency :=
    (List.map_congr_left fun e he => if_neg (ne e he)).trans (List.map_id _)
  simp only [State.setEarmark, State.updateEmergency, same]

theorem State.releaseVacating_works {t : SectorId} {n : SlotId} {c : Call} {v : Vacate} (slot : s.slot t n = .vacating c v) :
    s.Works (s.releaseVacating t n v) := by
  have freed : s.Works ((s.clearBeneficiary v.beneficiary).freeSlot t n) := by
    have := State.freeSlot_works (s := s) (t := t) (n := n) (c := c) (by rw [slot]; rfl)
    rwa [slot] at this
  obtain ⟨b, h⟩ | ⟨b, hb, absent, h⟩ | ⟨b, e, hb, _, _, h⟩ | ⟨b, e, hb, found, room, h⟩ := s.releaseVacating_cases t n v <;>
    rw [h]
  · rwa [b] at freed
  · rw [hb, State.clearBeneficiary, State.setEarmark_of_absent absent] at freed
    exact freed
  · rwa [hb] at freed
  · obtain ⟨mem, tag⟩ : e ∈ s.emergency ∧ e.tag = b := by
      refine ⟨List.mem_of_find?_eq_some found, ?_⟩
      simpa using List.find?_some found
    exact State.grantWaiting_works (x := e) (State.mem_allWaiting.mpr ⟨.emergency, mem⟩) ⟨rfl, rfl⟩
      (.inr ⟨c, v, slot, tag ▸ hb⟩) (by simpa [State.freePlaces_eq_zero_iff] using room)

end Sys2Proof.Machine
end

section
/-! SUPPORT. What a request's decision answers, said once for each request: a REJECT, or works and one reply; and what every command
but the two ends of a reset is made of. -/

namespace Sys2Proof.Machine

variable {s u t : State} {k : RequestKind}

/-- The reply is a REJECT. -/
def Reply.rejects : Reply → Bool
  | .reject .. => true
  | _ => false

/-- The decision answers with works and then one reply about the request, not a REJECT. -/
def State.Accepts (s : State) (k : RequestKind) (t : State) : Prop :=
  ∃ u r, s.Works u ∧ t = u.pushReply r ∧ r.about = some k ∧ r.rejects = false

/-- The decision answers with a REJECT and nothing else, or accepts. -/
def State.Answers (s : State) (k : RequestKind) (t : State) : Prop :=
  (∃ code field tag, t = s.reject k code field tag) ∨ s.Accepts k t

theorem State.reject_answers (s : State) (k : RequestKind) (code : RejectCode) (field : Nat) (tag : Tag) :
    s.Answers k (s.reject k code field tag) := .inl ⟨code, field, tag, rfl⟩

theorem State.Accepts.answers (h : s.Accepts k t) : s.Answers k t := .inr h

theorem State.Works.accepts (works : s.Works u) {r : Reply} (about : r.about = some k := by rfl)
    (accepted : r.rejects = false := by rfl) : s.Accepts k (u.pushReply r) :=
  ⟨u, r, works, rfl, about, accepted⟩

theorem State.Accepts.after (works : s.Works u) (h : u.Accepts k t) : s.Accepts k t := by
  obtain ⟨v, r, later, rest⟩ := h
  exact ⟨v, r, works.trans later, rest⟩

/-! ## ADMIT (R37 to R62) -/

section
variable {f : AdmitFields} {pre : Bool} {cls : CallClass}

/-- What the request checks of an ADMIT leave to its decision (R38). -/
structure State.Admits (s : State) (f : AdmitFields) : Prop where
  enabled : (s.sector (toSector f.sector)).state ≠ .disabled
  nonzero : f.tag ≠ 0
  fresh : ¬s.Holds f.tag

theorem State.Admits.opened (h : s.Admits f) (staying : ¬(s.sector (toSector f.sector)).leaving = true) :
    (s.sector (toSector f.sector)).state = .opened := by
  have := h.enabled
  rw [Sector.leaving_iff] at staying
  cases e : (s.sector (toSector f.sector)).state <;> simp_all

theorem State.lowestFree_of_freeCount {t : SectorId} (room : 0 < s.freeCount t) :
    ∃ n, s.lowestFree t = some n ∧ s.slot t n = .free := by
  obtain ⟨x, mem, free⟩ := List.countP_pos_iff.mp room
  obtain ⟨i, hi, rfl⟩ := List.getElem_of_mem mem
  have here : (s.slot t ⟨i, by simpa [(s.slots.get t).size_eq] using hi⟩).isFree = true := free
  obtain ⟨n, found⟩ : ∃ n, s.lowestFree t = some n := by
    rw [← Option.isSome_iff_exists, State.lowestFree, List.find?_isSome]
    exact ⟨_, mem_allSlots _, here⟩
  refine ⟨n, found, ?_⟩
  simpa [Slot.isFree] using List.find?_some found

theorem State.refuse_accepts (s : State) (f : AdmitFields) (reason : RefusalReason) :
    s.Accepts .admitCall (s.refuse f reason) :=
  State.Works.accepts (.single (.refusal f.key))

theorem State.directGrant_accepts {t : SectorId} (admits : s.Admits f) (opened : (s.sector t).state = .opened)
    (room : 0 < s.freeCount t) : s.Accepts .admitCall (s.directGrant f cls pre t) := by
  obtain ⟨n, found, free⟩ := State.lowestFree_of_freeCount room
  rw [State.directGrant, found]
  refine State.Works.accepts (.single (.direct free opened admits.nonzero admits.fresh ?_))
  rintro rfl
  rfl

theorem State.queuePlain_accepts (admits : s.Admits f) (room : (s.waiting cls).length < listPlaces cls)
    (plain : cls ≠ .emergency) : s.Accepts .admitCall (s.queuePlain f cls pre) := by
  rw [State.queuePlain_eq]
  exact State.Works.accepts (.single (.join (.inl ⟨rfl, room⟩) admits.nonzero admits.fresh fun h => absurd h plain))

theorem State.freeCount_pos_of_passesGuard {t : SectorId} (passes : s.passesGuard cls t = true) : 0 < s.freeCount t :=
  Nat.zero_lt_of_lt ((s.passesGuard_iff cls t).mp passes)

theorem State.decidePriority_accepts (admits : s.Admits f) : s.Accepts .admitCall (s.decidePriority f pre) := by
  unfold State.decidePriority
  dsimp only
  split
  next => exact s.refuse_accepts f _
  next staying =>
    split
    next test => exact State.directGrant_accepts admits (admits.opened staying) (State.freeCount_pos_of_passesGuard test.1)
    next =>
      split
      next room => exact State.queuePlain_accepts admits room nofun
      next => exact s.refuse_accepts f _

/-- The attempt takes the last place of the general list from its oldest entry (R56). -/
theorem State.displace_accepts {oldest : Waiting} {rest : List Waiting} (admits : s.Admits f)
    (general : s.general = oldest :: rest) (room : s.freePlaces ≠ 0) :
    s.Accepts .admitCall ((s.displace oldest).queuePlain f .general pre) := by
  rw [State.displace_queuePlain general]
  have joined : s.Work (s.setWaiting .general (rest ++ [s.newEntry f .general pre])) :=
    .join (.inr ⟨rfl, oldest, general⟩) admits.nonzero admits.fresh nofun
  exact State.Works.accepts (.head joined (State.placeAction_works _ room))

theorem State.decideMetered_accepts (admits : s.Admits f) (opened : (s.sector (toSector f.sector)).state = .opened) :
    s.Accepts .admitCall (s.decideMetered f pre) := by
  unfold State.decideMetered
  dsimp only
  split
  next test => exact State.directGrant_accepts admits opened (State.freeCount_pos_of_passesGuard test.1)
  next =>
    split
    next room => exact State.queuePlain_accepts admits room nofun
    next =>
      split
      next general =>
        split
        next => exact s.refuse_accepts f _
        next room => exact State.displace_accepts admits general room
      next => exact s.refuse_accepts f _

theorem State.spendToken_holds (s : State) (t : SectorId) (tag : Tag) : (s.spendToken t).Holds tag ↔ s.Holds tag := Iff.rfl

/-- Spending a token is a work (R53). -/
theorem State.spendToken_work (s : State) (t : SectorId) : s.Work (s.spendToken t) := by
  refine .govern t _ ⟨rfl, rfl⟩ fun range => ⟨{ range.sectors t with tokens := ?_ }, fun w opened enabled => ?_⟩
  · exact Nat.le_trans (Nat.sub_le _ _) (range.sectors t).tokens
  · exact range.floor w opened t enabled

theorem State.decideGeneral_accepts (admits : s.Admits f) : s.Accepts .admitCall (s.decideGeneral f pre) := by
  unfold State.decideGeneral
  dsimp only
  split
  next => exact s.refuse_accepts f _
  next staying =>
    split
    next => exact s.refuse_accepts f _
    next =>
      have state : ((s.spendToken (toSector f.sector)).sector (toSector f.sector)).state =
          (s.sector (toSector f.sector)).state := by
        simp [State.spendToken_sector]
      exact .after (.single (s.spendToken_work _)) (State.decideMetered_accepts
        ⟨by rw [state]; exact admits.enabled, admits.nonzero, admits.fresh⟩ (by rw [state]; exact admits.opened staying))

theorem State.queueEmergency_accepts (admits : s.Admits f) (room : s.emergency.length < 32)
    (key : f.key = 0 ∨ ∀ e ∈ s.emergency, e.key ≠ f.key) : s.Accepts .admitCall (s.queueEmergency f) :=
  State.Works.accepts (.head (.join (c := .emergency) (.inl ⟨rfl, room⟩) admits.nonzero admits.fresh fun _ => key) (State.pass_works _))

theorem State.decideEmergency_accepts (admits : s.Admits f) (key : f.key = 0 ∨ ∀ e ∈ s.emergency, e.key ≠ f.key) :
    s.Accepts .admitCall (s.decideEmergency f) := by
  unfold State.decideEmergency
  dsimp only
  split
  next found =>
    obtain ⟨opened, room, -⟩ := (s.emergencyTest_iff _).mp (List.find?_some found)
    exact State.directGrant_accepts admits opened room
  next =>
    split
    next room => exact State.queueEmergency_accepts admits room key
    next => exact State.Works.accepts (.single .emergencyFull)

theorem State.merge_accepts (s : State) (f : AdmitFields) (e : Waiting) : s.Accepts .admitCall (s.merge f e) := by
  refine State.Works.accepts (.single (.touch .emergency _ fun x => ?_))
  split
  · exact ⟨rfl, rfl, rfl, rfl, rfl, fun _ => Nat.min_le_right _ _, fun h => ⟨h, rfl⟩, fun _ => id⟩
  · exact .refl x

theorem State.mergeOrDecide_accepts (admits : s.Admits f) : s.Accepts .admitCall (s.mergeOrDecide f) := by
  unfold State.mergeOrDecide
  split
  next => exact s.merge_accepts f _
  next none_merges =>
    refine State.decideEmergency_accepts admits (or_iff_not_imp_left.mpr fun known => ?_)
    rw [if_neg known] at none_merges
    simpa using none_merges

theorem State.decideClass_accepts (admits : s.Admits f) : s.Accepts .admitCall (s.decideClass f cls pre) := by
  cases cls
  · exact State.mergeOrDecide_accepts admits
  · exact State.decidePriority_accepts admits
  · exact State.decideGeneral_accepts admits

theorem State.countHit_work (s : State) (i : ScreenIndex) : s.Work (s.countHit i) := by
  refine .screen _ fun bounded j => ?_
  rw [Table.get_set]
  split
  · have := bounded i
    simp only [State.screenEntry] at this
    obtain ⟨below, h⟩ | ⟨_, h⟩ := bump_cases (s.screening.entries.get i).hits <;> simp only [h] <;> omega
  · exact bounded j

theorem State.afterScan_works (s : State) (winner : Option ScreenIndex) : s.Works (s.afterScan winner) := by
  cases winner with
  | none => exact .refl
  | some i => exact .single (s.countHit_work i)

theorem State.Admits.afterScan (admits : s.Admits f) (winner : Option ScreenIndex) : (s.afterScan winner).Admits f := by
  cases winner with
  | none => exact admits
  | some i => exact ⟨admits.enabled, admits.nonzero, admits.fresh⟩

theorem State.classifyAndDecide_accepts (admits : s.Admits f) : s.Accepts .admitCall (s.classifyAndDecide f) := by
  unfold State.classifyAndDecide
  dsimp only
  refine .after (s.afterScan_works (s.scanWinner (screenKey f))) ?_
  split
  · exact State.refuse_accepts _ f _
  · exact State.decideClass_accepts (admits.afterScan _)

theorem decideAdmit_answers (f : AdmitFields) (s : State) : s.Answers .admitCall (decideAdmit f s) := by
  unfold decideAdmit
  split
  next => exact s.reject_answers _ _ _ _
  next checked =>
    split
    next => exact s.reject_answers _ _ _ _
    next enabled =>
      split
      next => exact s.reject_answers _ _ _ _
      next fresh =>
        have nonzero : f.tag ≠ 0 := by
          intro zero
          rw [admitChecks_fault, if_pos zero] at checked
          cases checked
        exact (State.classifyAndDecide_accepts ⟨enabled, nonzero, by rwa [holds_iff]⟩).answers

end

/-! ## RELEASE and CANCEL (R78 to R83) -/

theorem decideRelease_answers (tag : Tag) (s : State) : s.Answers .release (decideRelease tag s) := by
  unfold decideRelease
  split
  next => exact s.reject_answers _ _ _ _
  next =>
    split
    next t n found =>
      obtain ⟨c, call, -⟩ := State.call?_of_slotWith found
      refine State.Accepts.answers (State.Works.accepts ?_)
      split
      next slot => exact State.releaseVacating_works slot
      next other =>
        have unmarked : (s.slot t n).beneficiary? = none := by
          cases slot : s.slot t n with
          | vacating c v => exact absurd slot (other c v)
          | _ => rfl
        have := State.freeSlot_works call
        rwa [unmarked] at this
    next =>
      split
      next => exact s.reject_answers _ _ _ _
      next => exact s.reject_answers _ _ _ _

theorem decideCancel_answers (tag : Tag) (s : State) : s.Answers .cancel (decideCancel tag s) := by
  unfold decideCancel
  split
  next => exact s.reject_answers _ _ _ _
  next =>
    split
    next c e found =>
      exact (State.Works.accepts (.single (.discard (State.mem_of_entryWith found).1))).answers
    next =>
      split
      next => exact s.reject_answers _ _ _ _
      next => exact s.reject_answers _ _ _ _

/-! ## The sector requests (R10 to R19) -/

theorem dropEarmark_link (s : State) (link : LinkPort) (p : Place) :
    ({ s with link := link } : State).dropEarmark p.1 p.2 = { s.dropEarmark p.1 p.2 with link := link } := by
  have slot : ({ s with link := link } : State).slot p.1 p.2 = s.slot p.1 p.2 := rfl
  unfold State.dropEarmark
  rw [slot]
  split
  next c v _ => cases v.beneficiary <;> rfl
  next => rfl

theorem dropEarmarks_link (l : List Place) (s : State) (link : LinkPort) :
    dropEarmarks l { s with link := link } = { dropEarmarks l s with link := link } := by
  induction l generalizing s with
  | nil => rfl
  | cons p rest ih => rw [dropEarmarks, dropEarmark_link, ih, dropEarmarks]

theorem resizeSlots_link (raised cut : Bool) (capacity : Nat) (t : SectorId) (l : List SlotId) (s : State) (link : LinkPort) :
    resizeSlots raised cut capacity t l { s with link := link } = { resizeSlots raised cut capacity t l s with link := link } := by
  induction l generalizing s with
  | nil => rfl
  | cons n rest ih => exact ih (s.setSlot t n (resizedSlot raised cut capacity n (s.slot t n)))

theorem State.refit_link (s : State) (t : SectorId) (f : SectorSetFields) : (s.refit t f).link = s.link := by
  rw [State.refit, dropEarmarks_frame, resizeSlots_frame]
  rfl

/-- The state of a SECTOR-SET before its service walk is its records, with the LEVEL report of an enabling offered (R11 to R14). -/
theorem State.resized_dropped_eq (s : State) (t : SectorId) (f : SectorSetFields) :
    dropEarmarks (s.cutOff t f) (s.resized t f) = { s.refit t f with link := (s.rewritten t f).link } := by
  have split_off : s.rewritten t f =
      { s.setSector t ((s.sector t).rewritten f s.governor.surge) with link := (s.rewritten t f).link } := by
    conv_lhs => rw [State.rewritten_frame]
    rfl
  rw [State.resized]
  conv_lhs => rw [split_off]
  rw [resizeSlots_link, dropEarmarks_link]
  rfl

theorem State.resized_dropped_works {f : SectorSetFields} (accepted : s.AcceptsSectorSet f) :
    s.Works (dropEarmarks (s.cutOff (toSector f.sector) f) (s.resized (toSector f.sector) f)) := by
  rw [State.resized_dropped_eq, State.rewritten_link]
  refine .head (.refit accepted) ?_
  split
  · rw [← State.offerStatus_of_link_eq (State.refit_link s _ f)]
    exact .single (.offer _)
  · rw [← State.refit_link s (toSector f.sector) f]

theorem State.applySectorSet_works {f : SectorSetFields} (accepted : s.AcceptsSectorSet f) :
    s.Works (s.applySectorSet (toSector f.sector) f) := by
  have enabled : (if decide ((s.sector (toSector f.sector)).state = .disabled) then
      (s.setSector (toSector f.sector) ((s.sector (toSector f.sector)).written f)).enableSector (toSector f.sector)
      else s.setSector (toSector f.sector) ((s.sector (toSector f.sector)).written f)) =
      s.rewritten (toSector f.sector) f := by
    simp [State.rewritten]
  have dropped : (if decide (f.capacity.toNat < (s.sector (toSector f.sector)).capacity) then
      (s.rewritten (toSector f.sector) f).cutEarmarks (toSector f.sector) f.capacity.toNat else []) =
      s.cutOff (toSector f.sector) f := by
    rw [State.cutEarmarks_congr (s := s) fun n => by rw [State.rewritten_slot]]
    simp [State.cutOff]
  simp only [State.applySectorSet, enabled, dropped]
  exact ((State.resized_dropped_works accepted).trans (serveWalk_works _ _)).trans (State.passIf_works _ _)

theorem accepted_of_sectorSet_checks {f : SectorSetFields} (range : fieldFault (sectorSetRange f) = none)
    (consistent : fieldFault (sectorSetConsistency f) = none) (unlocked : s.guardsLocked (toSector f.sector) f = false) :
    s.AcceptsSectorSet f := by
  simp only [fieldFault_eq_none_iff, sectorSetRange, sectorSetConsistency, List.mem_cons, List.not_mem_nil, or_false,
    forall_eq_or_imp, forall_eq, decide_eq_true_eq] at range consistent
  obtain ⟨sector, capacity, generalGuard, priorityGuard, count, range1, range2, range3, weight, depth⟩ := range
  obtain ⟨guards, other1, other2, other3⟩ := consistent
  refine ⟨sector, capacity, ⟨guards, generalGuard⟩, count, ?_, ?_, weight, depth, fun locked => ?_⟩
  · rw [forall_mem_listedNeighbours]
    exact ⟨fun h => ⟨range1.resolve_left (by omega), other1.resolve_left (by omega)⟩,
      fun h => ⟨range2.resolve_left (by omega), (other2.resolve_left (by omega)).1⟩,
      fun h => ⟨range3.resolve_left (by omega), (other3.resolve_left (by omega)).1⟩⟩
  · rw [nodup_listedNeighbours]
    exact ⟨fun h => (other2.resolve_left (by omega)).2, fun h => (other3.resolve_left (by omega)).2⟩
  · simp only [State.guardsLocked, locked, Bool.true_and, decide_eq_false_iff_not] at unlocked
    omega

theorem decideSectorSet_answers (f : SectorSetFields) (s : State) : s.Answers .sectorSet (decideSectorSet f s) := by
  unfold decideSectorSet
  split
  next => exact s.reject_answers _ _ _ _
  next range =>
    split
    next => exact s.reject_answers _ _ _ _
    next consistent =>
      dsimp only
      split
      next => exact s.reject_answers _ _ _ _
      next unlocked =>
        have accepted := accepted_of_sectorSet_checks range consistent (by simpa using unlocked)
        exact ((State.applySectorSet_works accepted).accepts).answers

theorem State.drain_works {t : SectorId} (opened : (s.sector t).state = .opened) : s.Works (s.drain t) := by
  rw [State.drain_eq]
  exact .head (.drain opened) ((State.settled_works_drainedTest _ t).trans (State.passIf_works _ _))

theorem decideSectorDrain_answers (o : Octet) (s : State) : s.Answers .sectorDrain (decideSectorDrain o s) := by
  unfold decideSectorDrain
  split
  next => exact s.reject_answers _ _ _ _
  next =>
    dsimp only
    split
    next opened => exact ((State.drain_works opened).accepts).answers
    all_goals exact s.reject_answers _ _ _ _

theorem State.resume_works {t : SectorId} (leaving : (s.sector t).state = .draining ∨ (s.sector t).state = .drained) :
    s.Works (s.resume t) := .head (.resume leaving) (serveWalk_works _ _)

theorem decideSectorResume_answers (o : Octet) (s : State) : s.Answers .sectorResume (decideSectorResume o s) := by
  unfold decideSectorResume
  split
  next => exact s.reject_answers _ _ _ _
  next =>
    dsimp only
    split
    next => exact (State.Works.accepts .refl).answers
    next => exact s.reject_answers _ _ _ _
    next draining => exact ((State.resume_works (.inl draining)).accepts).answers
    next drained => exact ((State.resume_works (.inr drained)).accepts).answers

theorem decideSectorDisable_answers (o : Octet) (s : State) : s.Answers .sectorDisable (decideSectorDisable o s) := by
  unfold decideSectorDisable
  split
  next => exact s.reject_answers _ _ _ _
  next =>
    dsimp only
    split
    next drained => exact (State.Works.accepts (.single (.disable (.inl drained)))).answers
    next =>
      split
      next idle => exact (State.Works.accepts (.single (.disable (.inr idle.1)))).answers
      next => exact s.reject_answers _ _ _ _
    next => exact s.reject_answers _ _ _ _
    next => exact (State.Works.accepts .refl).answers

/-! ## The screening edit requests (R29 to R35) -/

theorem State.setHold_work (s : State) (h : Option Hold) : s.Work (s.setHold h) := .screen _ fun bounded => bounded

theorem State.setScreenEntry_work {i : ScreenIndex} {e : ScreenEntry}
    (hits : (s.screenEntry i).hits ≤ 65535 → e.hits ≤ 65535) : s.Work (s.setScreenEntry i e) := by
  refine .screen _ fun bounded j => ?_
  rw [Table.get_set]
  split
  · exact hits (bounded i)
  · exact bounded j

theorem State.writeEnabled_works {i : ScreenIndex} {c : ScreenContent} (written : s.writeEnabled i c = some u) : s.Works u := by
  unfold State.writeEnabled at written
  dsimp only at written
  split at written
  · cases written
  · split at written
    · split at written
      · cases written
      · obtain rfl := Option.some.inj written
        exact .single (State.setScreenEntry_work id)
    · split at written
      · split at written
        · obtain rfl := Option.some.inj written
          exact .single (State.setScreenEntry_work id)
        · cases written
      · obtain rfl := Option.some.inj written
        exact .refl

theorem State.writeDisabled_work (s : State) (i : ScreenIndex) (c : ScreenContent) : s.Work (s.writeDisabled i c) := by
  refine State.setScreenEntry_work fun bounded => ?_
  dsimp only
  split <;> omega

theorem decideScreenSet_answers (f : ScreenSetFields) (s : State) : s.Answers .screenSet (decideScreenSet f s) := by
  unfold decideScreenSet
  split
  next => exact s.reject_answers _ _ _ _
  next =>
    dsimp only
    split
    next => exact s.reject_answers _ _ _ _
    next =>
      split
      next =>
        split
        next written => exact ((State.writeEnabled_works written).accepts).answers
        next => exact s.reject_answers _ _ _ _
      next => exact (State.Works.accepts (.single (s.writeDisabled_work _ _))).answers

theorem decideScreenHold_answers (o : Octet) (s : State) : s.Answers .screenHold (decideScreenHold o s) := by
  unfold decideScreenHold
  split
  next => exact s.reject_answers _ _ _ _
  next =>
    dsimp only
    split
    next => exact s.reject_answers _ _ _ _
    next =>
      split
      next => exact s.reject_answers _ _ _ _
      next =>
        split
        next => exact s.reject_answers _ _ _ _
        next => exact (State.Works.accepts (.single (s.setHold_work _))).answers

theorem decideScreenFree_answers (s : State) : s.Answers .screenFree (decideScreenFree s) := by
  unfold decideScreenFree
  split
  next => exact s.reject_answers _ _ _ _
  next =>
    split
    next => exact s.reject_answers _ _ _ _
    next => exact (State.Works.accepts (.single (s.setHold_work _))).answers

/-! ## The governor's requests (R114, R129 to R132, R148) -/

theorem decideLevelSet_answers (f : LevelSetFields) (s : State) : s.Answers .levelSet (decideLevelSet f s) := by
  unfold decideLevelSet
  split
  next => exact s.reject_answers _ _ _ _
  next accepted => exact (State.Works.accepts (.single (.stageRow accepted))).answers

theorem decideTimerSet_answers (f : TimerSetFields) (s : State) : s.Answers .timerSet (decideTimerSet f s) := by
  unfold decideTimerSet
  split
  next => exact s.reject_answers _ _ _ _
  next accepted => exact (State.Works.accepts (.single (.timers accepted))).answers

theorem State.raisedWith_sectors_of_floor {w v : Surge} (floor : w.floor = v.floor) :
    (s.raisedWith w).sectors = (s.raisedWith v).sectors :=
  Table.ext_get fun t => (s.raisedWith_sector w t).trans ((congrArg (s.raisedRecord · t) floor).trans (s.raisedWith_sector v t).symm)

theorem State.openSurge_works (s : State) (floor : LevelId) {seconds : Nat} (range : 1 ≤ seconds ∧ seconds ≤ 3600) :
    s.Works (s.openSurge floor seconds) := by
  let w : Surge := { openedWindow s.localTime floor seconds with noticeDue := decide (10 < seconds) }
  have kept : (s.raised w).link = s.link := by simp only [State.raised]
  have whole : s.openSurge floor seconds = (s.raised w).offerAll (s.surgeReports floor seconds) := by
    rw [State.openSurge_eq s floor range.2, State.offerAll_of_link_eq kept, State.raised,
      State.raisedWith_sectors_of_floor (w := openedWindow s.localTime floor seconds) (v := w) rfl]
  rw [whole]
  exact .head (.openSurge range rfl fun due => by simpa [w] using due) (State.offerAll_works _ _)

theorem decideSurgeOpen_answers (f : SurgeOpenFields) (s : State) : s.Answers .surgeOpen (decideSurgeOpen f s) := by
  unfold decideSurgeOpen
  split
  next => exact s.reject_answers _ _ _ _
  next accepted =>
    have range : 1 ≤ f.duration.toNat ∧ f.duration.toNat ≤ 3600 := by
      by_contra wrong
      rw [surgeOpenChecks_fault, if_pos wrong] at accepted
      cases accepted
    exact ((s.openSurge_works (toLevel f.floor) range).accepts).answers

theorem decideSurgeExtend_answers (n : BitVec 16) (s : State) : s.Answers .surgeExtend (decideSurgeExtend n s) := by
  unfold decideSurgeExtend
  split
  next => exact s.reject_answers _ _ _ _
  next accepted =>
    have range : 1 ≤ n.toNat ∧ n.toNat ≤ 3600 := by
      by_contra wrong
      rw [secondsFault_eq, if_pos wrong] at accepted
      cases accepted
    split
    next => exact s.reject_answers _ _ _ _
    next w opened => exact (State.Works.accepts (.single (.extend opened range))).answers

theorem State.closeSurge_works (s : State) (w : Surge) : s.Works (s.closeSurge w) :=
  .head .closeSurge (.single (.offer _))

theorem decideSurgeClose_answers (s : State) : s.Answers .surgeClose (decideSurgeClose s) := by
  unfold decideSurgeClose
  split
  next => exact s.reject_answers _ _ _ _
  next w _ => exact ((s.closeSurge_works w).accepts).answers

/-! ## AUDIT and the queries (R187 to R195) -/

theorem decideAudit_answers (f : AuditFields) (s : State) : s.Answers .audit (decideAudit f s) := by
  unfold decideAudit
  split
  next =>
    split
    next => exact s.reject_answers _ _ _ _
    next =>
      unfold State.auditReply
      split <;> exact (State.Works.accepts .refl).answers
  next => exact s.reject_answers _ _ _ _

theorem decideQuerySector_answers (o : Octet) (s : State) : s.Answers .querySector (decideQuerySector o s) := by
  unfold decideQuerySector
  split
  next => exact s.reject_answers _ _ _ _
  next => exact (State.Works.accepts .refl).answers

theorem decideQuerySlots_answers (f : QuerySlotsFields) (s : State) : s.Answers .querySlots (decideQuerySlots f s) := by
  unfold decideQuerySlots
  split
  next => exact s.reject_answers _ _ _ _
  next => exact (State.Works.accepts .refl).answers

theorem decideQueryList_answers (f : QueryListFields) (s : State) : s.Answers .queryList (decideQueryList f s) := by
  unfold decideQueryList
  split
  next => exact s.reject_answers _ _ _ _
  next => exact (State.Works.accepts .refl).answers

theorem decideQueryScreen_answers (o : Octet) (s : State) : s.Answers .queryScreen (decideQueryScreen o s) := by
  unfold decideQueryScreen
  split
  next => exact s.reject_answers _ _ _ _
  next => exact (State.Works.accepts .refl).answers

end Sys2Proof.Machine
end

section
/-! SUPPORT. What every command but the two ends of a reset is made of: works of the last file, and the events of the link port. -/

namespace Sys2Proof.Machine

variable {s u t : State}

/-! ## The events of the link port -/

/-- The kind and body of the report or reply at the head of a lane or queue (R166). -/
def LinkPort.headFrame (k : LinkPort) : Source → Option Frame
  | .action => k.actionLane.head?.map (fun a => ⟨a.kind, a.body⟩)
  | .reply => k.replyQueue.head?.map (fun r => ⟨r.kind, r.body⟩)
  | .status => k.statusLane.head?.map (fun x => ⟨x.kind, x.body⟩)

/-- The frame in transmission has left with the head of its lane or queue (R158). -/
def LinkPort.ended (k : LinkPort) : Source → LinkPort
  | .action => { k with sending := none, actionLane := k.actionLane.drop 1 }
  | .reply => { k with sending := none, replyQueue := k.replyQueue.drop 1 }
  | .status => { k with sending := none, statusLane := k.statusLane.drop 1 }

/-- One event of the link port: of the receiver, the request queue, the reply queue or the transmitter. -/
inductive LinkPort.Event : LinkPort → LinkPort → Prop
  /-- An octet is taken into the receiver (R175). -/
  | receiver {k : LinkPort} {r : Receiver} (bounds : k.receiver.InBounds → r.InBounds) :
      Event k { k with receiver := r, gapTicks := 0 }
  /-- The wait for the line to return high begins or ends (R171). -/
  | lineLow {k : LinkPort} (low : Bool) : Event k { k with lineLow := low }
  /-- A frame is lost (R178, R179). -/
  | lost {k : LinkPort} (why : LossKind) {run : Nat} (bound : k.noiseRun ≤ 3 → run ≤ 3) :
      Event k { k.countLoss why with receiver := .hunt, gapTicks := 0, noiseRun := run }
  /-- A good frame joins the request queue (R180). -/
  | joined {k : LinkPort} (f : Frame) (room : k.requestQueue.length < 8) :
      Event k { k with noiseRun := 0, requestQueue := k.requestQueue ++ [f] }
  /-- A good frame is discarded (R180). -/
  | overrun {k : LinkPort} : Event k { k with noiseRun := 0, overrunCount := bump k.overrunCount }
  /-- A good frame is taken as it arrives (log 4). -/
  | arrived {k : LinkPort} : Event k { k with noiseRun := 0 }
  /-- The head of the request queue is taken (R181). -/
  | taken {k : LinkPort} : Event k { k with requestQueue := k.requestQueue.drop 1 }
  /-- A reply joins the reply queue (R182). -/
  | reply {k : LinkPort} (r : Reply) (room : k.replyQueue.length < 8) : Event k { k with replyQueue := k.replyQueue ++ [r] }
  /-- The level of THOLD is taken (R172). -/
  | thold {k : LinkPort} (b : Bool) : Event k { k with thold := b }
  /-- A frame begins (R166, R183). -/
  | begin {k : LinkPort} {src : Source} {f : Frame} (idle : k.sending = none) (head : k.headFrame src = some f) :
      Event k { k with sending := some { source := src, octets := wireFrame f.kind f.body, elapsed := 0 } }
  /-- A frame ends (R158). -/
  | ended {k : LinkPort} {d : Sending} (sending : k.sending = some d) : Event k (k.ended d.source)

/-- One work, or one event of the link port. -/
inductive State.Change : State → State → Prop
  | work {s u : State} (work : s.Work u) : Change s u
  | link {s : State} {k : LinkPort} (event : s.link.Event k) : Change s { s with link := k }

/-- Changes one after the other. -/
abbrev State.Changes : State → State → Prop := Relation.ReflTransGen State.Change

theorem State.Works.changes (works : s.Works u) : s.Changes u := Relation.ReflTransGen.mono (fun _ _ => .work) _ _ works

/-- No change moves local time, ends or begins a reset, or touches the model's own fields. -/
theorem State.Changes.clock (changes : s.Changes u) :
    u.localTime = s.localTime ∧ u.inReset = s.inReset ∧ u.choices = s.choices ∧ u.pending = s.pending := by
  induction changes with
  | refl => exact ⟨rfl, rfl, rfl, rfl⟩
  | tail _ change ih =>
    cases change with
    | work work =>
      have kept := work.untouched
      exact ⟨kept.localTime.trans ih.1, kept.inReset.trans ih.2.1, kept.choices.trans ih.2.2.1, kept.pending.trans ih.2.2.2⟩
    | link => exact ih

/-! ## Requests (R180 to R182) -/

/-- What a request's decision does to a state with room for the reply. -/
theorem State.Answers.changes {k : RequestKind} (h : s.Answers k t) (room : s.link.replyQueue.length < 8) : s.Changes t := by
  obtain ⟨code, field, tag, rfl⟩ | ⟨u, r, works, rfl, -, -⟩ := h
  · exact .single (.link (.reply _ room))
  · exact works.changes.tail (.link (.reply r (by rwa [works.untouched.replyQueue])))

theorem decideBody_answers {α : Type} {k : RequestKind} {d : α → State → State} (h : ∀ a (u : State), u.Answers k (d a u)) (b : Body α)
    (u : State) : u.Answers k (decideBody k b d u) := by
  cases b with
  | ok a => exact h a u
  | badLength l => exact u.reject_answers _ _ _ _

/-- The decision of a command's frame: that of the request which its kind octet names, or the REJECT of an unknown kind. -/
def FrameDecision (i : Instr) (f : Frame) (d : State → State) : Prop :=
  (∃ k : RequestKind, k.code = f.kind ∧ ∀ u : State, u.Answers k (d u)) ∨
    i = .unknownKind f.kind f.body ∧ d = fun u => u.pushReply (.reject none .unknownKind f.kind 0)

/-- Every command with a frame goes through the request queue with the decision of its frame. -/
theorem exec_frameDecision {i : Instr} {f : Frame} (h : frameOf i = some f) :
    ∃ d, (∀ s, exec i s = .next (s.request (some f) d)) ∧ FrameDecision i f d := by
  have known : ∀ (k : RequestKind) (body : List Octet) (d : State → State), frameOf i = some ⟨k.code, body⟩ →
      (∀ s, exec i s = .next (s.request (frameOf i) d)) → (∀ u : State, u.Answers k (d u)) →
      ∃ d, (∀ s, exec i s = .next (s.request (some f) d)) ∧ FrameDecision i f d := by
    intro k body d frame runs answers
    obtain rfl : (⟨k.code, body⟩ : Frame) = f := Option.some.inj (frame.symm.trans h)
    exact ⟨d, fun s => by rw [runs, frame], .inl ⟨k, rfl, answers⟩⟩
  have plain : ∀ {k : RequestKind} {g : State → State}, (∀ u : State, u.Answers k (g u)) → ∀ (_ : Unit) (u : State), u.Answers k (g u) :=
    fun h _ => h
  cases i with
  | admitCall b => exact known _ _ _ rfl (fun _ => rfl) (decideBody_answers decideAdmit_answers b)
  | release b => exact known _ _ _ rfl (fun _ => rfl) (decideBody_answers decideRelease_answers b)
  | cancel b => exact known _ _ _ rfl (fun _ => rfl) (decideBody_answers decideCancel_answers b)
  | sectorSet b => exact known _ _ _ rfl (fun _ => rfl) (decideBody_answers decideSectorSet_answers b)
  | sectorDrain b => exact known _ _ _ rfl (fun _ => rfl) (decideBody_answers decideSectorDrain_answers b)
  | sectorResume b => exact known _ _ _ rfl (fun _ => rfl) (decideBody_answers decideSectorResume_answers b)
  | sectorDisable b => exact known _ _ _ rfl (fun _ => rfl) (decideBody_answers decideSectorDisable_answers b)
  | screenSet b => exact known _ _ _ rfl (fun _ => rfl) (decideBody_answers decideScreenSet_answers b)
  | screenHold b => exact known _ _ _ rfl (fun _ => rfl) (decideBody_answers decideScreenHold_answers b)
  | screenFree b => exact known _ _ _ rfl (fun _ => rfl) (decideBody_answers (plain decideScreenFree_answers) b)
  | levelSet b => exact known _ _ _ rfl (fun _ => rfl) (decideBody_answers decideLevelSet_answers b)
  | timerSet b => exact known _ _ _ rfl (fun _ => rfl) (decideBody_answers decideTimerSet_answers b)
  | surgeOpen b => exact known _ _ _ rfl (fun _ => rfl) (decideBody_answers decideSurgeOpen_answers b)
  | surgeExtend b => exact known _ _ _ rfl (fun _ => rfl) (decideBody_answers decideSurgeExtend_answers b)
  | surgeClose b => exact known _ _ _ rfl (fun _ => rfl) (decideBody_answers (plain decideSurgeClose_answers) b)
  | guardLock b =>
    exact known _ _ _ rfl (fun _ => rfl)
      (decideBody_answers (plain fun _ => (State.Works.accepts (.single .lock)).answers) b)
  | audit b => exact known _ _ _ rfl (fun _ => rfl) (decideBody_answers decideAudit_answers b)
  | queryStatus b =>
    exact known _ _ _ rfl (fun _ => rfl) (decideBody_answers (plain fun _ => (State.Works.accepts .refl).answers) b)
  | querySector b => exact known _ _ _ rfl (fun _ => rfl) (decideBody_answers decideQuerySector_answers b)
  | querySlots b => exact known _ _ _ rfl (fun _ => rfl) (decideBody_answers decideQuerySlots_answers b)
  | queryList b => exact known _ _ _ rfl (fun _ => rfl) (decideBody_answers decideQueryList_answers b)
  | queryScreen b => exact known _ _ _ rfl (fun _ => rfl) (decideBody_answers decideQueryScreen_answers b)
  | queryLevels b =>
    exact known _ _ _ rfl (fun _ => rfl) (decideBody_answers (plain fun _ => (State.Works.accepts .refl).answers) b)
  | restart b =>
    exact known _ _ _ rfl (fun _ => rfl)
      (decideBody_answers (plain fun _ => (State.Works.accepts (.single .restart)).answers) b)
  | unknownKind kind body =>
    obtain rfl := Option.some.inj h
    exact ⟨_, fun _ => rfl, .inr ⟨rfl, rfl⟩⟩
  | _ => cases h

theorem FrameDecision.changes {i : Instr} {f : Frame} {d : State → State} (h : FrameDecision i f d) (room : s.link.replyQueue.length < 8) :
    s.Changes (d s) := by
  obtain ⟨k, -, answers⟩ | ⟨-, rfl⟩ := h
  · exact (answers s).changes room
  · exact .single (.link (.reply _ room))

theorem State.arrive_changes (s : State) (f : Frame) : s.Changes (s.arrive f) := by
  obtain ⟨room, h⟩ | ⟨_, h⟩ := s.arrive_cases f <;> rw [h]
  · exact .single (.link (.joined f room))
  · exact .single (.link .overrun)

theorem State.request_changes {i : Instr} {f : Frame} {d : State → State} (h : FrameDecision i f d) (s : State) :
    s.Changes (s.request (some f) d) := by
  obtain ⟨_, e⟩ | ⟨⟨_, room, _⟩, e⟩ | ⟨⟨_, room, _⟩, e⟩ | ⟨_, _, _, e⟩ := s.request_cases f d <;> rw [e]
  · exact .head (.link .taken) (h.changes room)
  · exact .head (.link .arrived) (h.changes room)
  · exact s.arrive_changes f

/-! ## The receiver's events (R171, R175 to R178) -/

theorem State.loseFrame_changes (s : State) (why : LossKind) : s.Changes (s.loseFrame why) := by
  have run : (s.link.countLoss why).noiseRun = s.link.noiseRun := by cases why <;> rfl
  unfold State.loseFrame
  dsimp only
  rw [run]
  split
  · exact .single (.link (.lost why fun _ => by omega))
  · split
    · exact .head (.link (.lost why fun _ => by omega)) (.single (.work (.offer _)))
    · exact .single (.link (.lost why id))

theorem State.completeFrame_changes (s : State) (got : List Octet) (hi lo : Octet) : s.Changes (s.completeFrame got hi lo) := by
  have hunting : s.Change { s with link := { s.link with receiver := .hunt, gapTicks := 0 } } := .link (.receiver fun _ => trivial)
  unfold State.completeFrame
  split
  · dsimp only
    split
    · exact .head hunting (State.arrive_changes _ _)
    · exact .single hunting
  · exact s.loseFrame_changes .check

theorem State.receiveOctet_changes (s : State) (o : Octet) : s.Changes (s.receiveOctet o) := by
  unfold State.receiveOctet
  split
  next => -- hunt
    split
    · exact .single (.link (.receiver fun _ => trivial))
    · exact .refl
  next => -- length
    split
    next range =>
      have range : 1 ≤ o.toNat ∧ o.toNat ≤ 248 := by simpa [lengthInRange] using range
      exact .single (.link (.receiver fun _ => ⟨range.1, range.2, range.1⟩))
    next => exact s.loseFrame_changes .check
  next n got receiver => -- body
    have bounds : s.link.receiver.InBounds → 1 ≤ n ∧ n ≤ 248 ∧ got.length < n := by rw [receiver]; exact id
    split
    · refine .single (.link (.receiver fun h => ?_))
      have := bounds h
      simp only [Receiver.InBounds, List.length_append, List.length_singleton]
      omega
    · refine .single (.link (.receiver fun h => ?_))
      have := bounds h
      simp only [Receiver.InBounds, List.length_append, List.length_singleton]
      omega
  next got receiver => exact .single (.link (.receiver fun h => by rw [receiver] at h; exact h)) -- check, first octet
  next got hi _ => exact s.completeFrame_changes got hi o -- check, second octet

theorem State.receiveCharacter_changes (s : State) (c : CharSamples) : s.Changes (s.receiveCharacter c) := by
  unfold State.receiveCharacter
  split
  · exact .refl
  · split
    · exact .single (.link (.lineLow false))
    · exact .head (.link (.lineLow _)) (State.receiveOctet_changes _ _)

/-! ## The transmitter's events (R158, R161, R166, R172) -/

theorem State.begin_changes {src : Source} {f : Frame} (idle : s.link.sending = none) (head : s.link.headFrame src = some f) :
    s.Changes (s.begin src f.kind f.body) :=
  .single (.link (.begin idle head))

theorem State.frameBoundary_changes (s : State) : s.Changes s.frameBoundary := by
  unfold State.frameBoundary
  split
  next => exact .refl
  next free =>
    have idle : s.link.sending = none := by
      cases h : s.link.sending <;> simp_all
    split
    next a _ lane => exact State.begin_changes (f := ⟨a.kind, a.body⟩) idle (by simp [LinkPort.headFrame, lane])
    next r _ _ queue => exact State.begin_changes (f := ⟨r.kind, r.body⟩) idle (by simp [LinkPort.headFrame, queue])
    next x _ _ _ lane => exact State.begin_changes (f := ⟨x.kind, x.body⟩) idle (by simp [LinkPort.headFrame, lane])
    next => exact .refl

theorem Waiting.signal_touched (x : Waiting) : x.Touched x.signal where
  tag := rfl
  cls := rfl
  key := rfl
  preemptible := rfl
  earmark := rfl
  merged := id
  watch h := by
    cases w : x.watch with
    | watched => exact ⟨rfl, rfl⟩
    | _ => simp [Waiting.signal, Watch.signal, w] at h
  point _ := id

theorem State.roomAppeared_works (s : State) : s.Works s.roomAppeared :=
  .head (.marks s.serviceDeferred s.passDeferred (s.retrySignal || s.serviceDeferred) (s.passSignal || s.passDeferred))
    (.head (.touch .emergency Waiting.signal Waiting.signal_touched)
      (.head (.touch .priority Waiting.signal Waiting.signal_touched)
        (.head (.touch .general Waiting.signal Waiting.signal_touched) (.single .signalSlots))))

theorem State.frameEnd_changes (s : State) : s.Changes s.frameEnd := by
  unfold State.frameEnd
  split
  next => exact .refl
  next d sending =>
    have ended : s.Change { s with link := s.link.ended d.source } := .link (.ended sending)
    split
    next source =>
      split
      next => exact .refl
      next =>
        rw [source] at ended
        exact .head ended (State.roomAppeared_works _).changes
    next source =>
      rw [source] at ended
      exact .single ended
    next source =>
      rw [source] at ended
      exact .single ended

/-! ## The events of the arbiter and the sweep -/

theorem State.retryService_works (s : State) : s.Works s.retryService :=
  .head (.marks false s.passDeferred false s.passSignal) (serveWalk_works _ _)

theorem State.declineWaiting_work (s : State) (c : CallClass) (tag : Tag) : s.Work (s.declineWaiting c tag) := by
  refine .touch c _ fun x => ?_
  split
  · exact ⟨rfl, rfl, rfl, rfl, rfl, id, nofun, fun _ => id⟩
  · exact .refl x

theorem State.expireWaiting_works {c : CallClass} {e : Waiting} (mem : e ∈ s.waiting c) (room : s.freePlaces ≠ 0) :
    s.Works (s.expireWaiting c e) := by
  refine .head (.discard mem) (State.placeAction_works _ ?_)
  have kept : (s.discardEntry c e).link = s.link := by
    rw [State.discardEntry, State.removeWaiting, State.setWaiting_link, State.dropEarmarkOf]
    split
    · rw [State.dropEarmark_frame]
    · rfl
  rwa [State.freePlaces, kept]

theorem State.escalate_works (s : State) (e : Waiting) : s.Works (s.escalate e) := by
  refine .head (.touch .emergency _ fun x => ?_) (State.passIf_works _ _)
  split
  · exact ⟨rfl, rfl, rfl, rfl, rfl, id, fun h => ⟨h, rfl⟩, nofun⟩
  · exact .refl x

theorem State.clearBeneficiary_placeAction (s : State) (r : ActionReport) (b : Option Tag) :
    (s.placeAction r).clearBeneficiary b = (s.clearBeneficiary b).placeAction r := by
  cases b <;> rfl

theorem State.giveUpSlot_works {t : SectorId} {n : SlotId} {c : Call} {v : Vacate} (slot : s.slot t n = .vacating c v)
    (room : s.freePlaces ≠ 0) : s.Works (s.giveUpSlot t n c v) := by
  rw [State.giveUpSlot, State.clearBeneficiary_placeAction]
  refine .head (.giveUp slot) ((State.placeAction_works _ ?_).trans (State.passIf_works _ _))
  have kept : ((s.setSlot t n (.stuck c)).clearBeneficiary v.beneficiary).link = s.link := by
    cases v.beneficiary <;> rfl
  rwa [State.freePlaces, kept]

theorem State.renewOrder_works {t : SectorId} {n : SlotId} {c : Call} {v : Vacate} (slot : s.slot t n = .vacating c v)
    (room : s.freePlaces ≠ 0) : s.Works (s.renewOrder t n c v) :=
  .head (.order (v' := { v with attempt := .second, deadline := after s.localTime s.settings.vacateTimeout, watch := .watched })
    slot rfl fun _ => rfl) (State.placeAction_works _ room)

/-! ## The epoch boundary and the points of the surge window (R116, R131, R132) -/

theorem newPressure_le {p l w : Nat} (pressure : p ≤ 4095) (load : l ≤ 4095) (weight : w ≤ 16) : newPressure p l w ≤ 4095 := by
  have between := (weighted_between ((l : Int) - p) weight).2
  have value := newPressure_eq p l weight
  omega

theorem loadIndex_le (c o q : Nat) : loadIndex c o q ≤ 4095 := by
  unfold loadIndex
  split
  · exact Nat.le_refl _
  · exact Nat.min_le_right _ _

/-- A vote never takes a level below the floor of an open window (R122, R133). -/
theorem afterVote_floor {w : Surge} {l : LevelId} (h : VoteHistory) (v : Vote) (above : w.floor ≤ l) :
    w.floor ≤ (afterVote (some w) l h v).1 := by
  unfold afterVote
  dsimp only
  split
  · unfold levelUp
    rw [Fin.le_def] at above ⊢
    split
    · exact Nat.le_succ_of_le above
    · exact above
  · split
    next down =>
      have allowed : w.floor.val + 1 ≤ l.val := by simpa [decreaseAllowed] using down.2
      rw [Fin.le_def, levelDown]
      dsimp only
      omega
    next => exact above

theorem boundarySector_inRange {r : Sector} {t : SectorId} (range : r.InRange t) (table : Table LevelRow 8) (w : Option Surge)
    (o q : Nat) : (boundarySector table w o q r).InRange t :=
  { range with
    tokens := Nat.min_le_left _ _
    pressure := newPressure_le range.pressure (loadIndex_le _ _ _) range.weight.2 }

theorem State.governSector_works (s : State) (before : Table LevelRow 8) (t : SectorId) : s.Works (s.governSector before t) := by
  unfold State.governSector
  dsimp only
  split
  next => exact .refl
  next enabled =>
    have governed : s.Work (s.setSector t
        (boundarySector s.governor.activeTable s.governor.surge (s.occupancy t) (s.waitingCount t) (s.sector t))) := by
      refine .govern t _ ⟨rfl, rfl⟩ fun range => ⟨boundarySector_inRange (range.sectors t) _ _ _ _, fun w opened _ => ?_⟩
      simp only [boundarySector, opened]
      exact afterVote_floor _ _ (range.floor w opened t enabled)
    split
    · exact .single governed
    · exact .head governed (.single (.offer _))

theorem governSectors_works (before : Table LevelRow 8) (l : List SectorId) (s : State) : s.Works (governSectors before l s) := by
  induction l generalizing s with
  | nil => exact .refl
  | cons t rest ih => exact (s.governSector_works before t).trans (ih _)

theorem State.boundary_works (due : reached s.governor.nextBoundary s.localTime = true) : s.Works s.boundary :=
  .head (.copy due) ((governSectors_works _ _ _).trans (State.pass_works _))

theorem State.placeClosing_works {w : Surge} (opened : s.governor.surge = some w) : s.Works (s.placeClosing w) :=
  .head (.notice opened) (.single (.offer _))

/-! ## Every command but the two ends of a reset -/

theorem State.live_changes {effect : State → State} (h : s.Changes (effect s)) : s.Changes (s.live effect) := by
  obtain ⟨_, e⟩ | ⟨_, e⟩ := s.live_cases effect <;> rw [e]
  exact h

/-- What a command that is no request does to a part that is not held in reset (R198). -/
theorem exec_live {i : Instr} (event : frameOf i = none) (running : i ≠ .powerOnReset) (held : ∀ b1 b0, i ≠ .resetEnd b1 b0) :
    ∃ effect, (∀ s, exec i s = .next (s.live effect)) ∧ ∀ s : State, s.Changes (effect s) := by
  cases i with
  | octetDelivered c => exact ⟨_, fun _ => rfl, fun s => s.receiveCharacter_changes c⟩
  | badLengthOctet o =>
    refine ⟨_, fun _ => rfl, fun s => ?_⟩
    split
    · exact s.receiveOctet_changes o
    · exact .refl
  | goodFrame o =>
    refine ⟨_, fun _ => rfl, fun s => ?_⟩
    split
    · exact s.completeFrame_changes _ _ _
    · exact .refl
  | gapTimeout =>
    refine ⟨_, fun _ => rfl, fun s => ?_⟩
    split
    · exact .refl
    · exact s.loseFrame_changes .gap
  | tholdAsserted n =>
    refine ⟨_, fun _ => rfl, fun s => ?_⟩
    split
    · exact .single (.link (.thold true))
    · exact .refl
  | tholdDeasserted n =>
    refine ⟨_, fun _ => rfl, fun s => ?_⟩
    split
    · exact .head (.link (.thold false)) (State.frameBoundary_changes _)
    · exact .refl
  | frameBoundary => exact ⟨_, fun _ => rfl, State.frameBoundary_changes⟩
  | frameEnd => exact ⟨_, fun _ => rfl, State.frameEnd_changes⟩
  | deferredServiceRetry =>
    refine ⟨_, fun _ => rfl, fun s => ?_⟩
    split
    · exact s.retryService_works.changes
    · exact .single (.work (.marks s.serviceDeferred s.passDeferred false s.passSignal))
  | deferredPass =>
    have answered (s : State) : s.Work { s with passSignal := false } :=
      .marks s.serviceDeferred s.passDeferred s.retrySignal false
    refine ⟨_, fun _ => rfl, fun s => ?_⟩
    split
    · exact .refl
    · split
      · exact .head (.work (answered s)) (State.pass_works _).changes
      · exact .single (.work (answered s))
  | waitingExpiry tag =>
    refine ⟨_, fun _ => rfl, fun s => ?_⟩
    split
    · exact .refl
    next c e found =>
      split
      · split
        · exact .single (.work (s.declineWaiting_work c tag))
        next room => exact (State.expireWaiting_works (State.mem_of_entryWith found).1 room).changes
      · exact .refl
  | escalation tag =>
    refine ⟨_, fun _ => rfl, fun s => ?_⟩
    split
    · exact .refl
    · split
      · exact .refl
      · split
        · exact (s.escalate_works _).changes
        · exact .refl
  | vacateExpiry t n =>
    refine ⟨_, fun _ => rfl, fun s => ?_⟩
    split
    next c v slot =>
      split
      · split
        · exact .single (.work (.order slot rfl nofun))
        next room =>
          split
          · exact (State.renewOrder_works slot room).changes
          · exact (State.giveUpSlot_works slot room).changes
      · exact .refl
    next => exact .refl
  | epochBoundary =>
    refine ⟨_, fun _ => rfl, fun s => ?_⟩
    split
    next due => exact (State.boundary_works due).changes
    next => exact .refl
  | closingPoint =>
    refine ⟨_, fun _ => rfl, fun s => ?_⟩
    split
    next w opened =>
      split
      · exact (State.placeClosing_works opened).changes
      · exact .refl
    next => exact .refl
  | surgeExpiry =>
    refine ⟨_, fun _ => rfl, fun s => ?_⟩
    split
    next w _ =>
      split
      · exact (s.closeSurge_works w).changes
      · exact .refl
    next => exact .refl
  | powerOnReset => exact absurd rfl running
  | resetEnd b1 b0 => exact absurd rfl (held b1 b0)
  | _ => cases event

/-- Every command but the two ends of a reset answers a next state, by changes alone, and does nothing to a part held in reset. -/
theorem exec_changes {i : Instr} (running : i ≠ .powerOnReset) (held : ∀ b1 b0, i ≠ .resetEnd b1 b0) (s : State) :
    ∃ t, exec i s = .next t ∧ s.Changes t ∧ (s.inReset = true → t = s) := by
  cases frame : frameOf i with
  | none =>
    obtain ⟨effect, runs, changes⟩ := exec_live frame running held
    exact ⟨_, runs s, State.live_changes (changes s), fun reset => by rw [State.live, if_pos reset]⟩
  | some f =>
    obtain ⟨d, runs, decision⟩ := exec_frameDecision frame
    exact ⟨_, runs s, State.request_changes decision s, fun reset => State.request_inReset reset _⟩

end Sys2Proof.Machine
end

section
/-! PROOFS. What every command answers, and the one reply of a request that is taken (R146, R180 to R182, R198). -/

namespace Sys2Proof.Machine

/-- Settles O3: a reset's two ends are read off, and every other command is made of changes. -/
theorem commandsAnswerNext : Obligations.CommandsAnswerNext := by
  intro s i
  by_cases running : i = .powerOnReset
  · subst running
    exact ⟨_, rfl, rfl, rfl, fun other => absurd rfl other⟩
  by_cases held : ∃ b1 b0, i = .resetEnd b1 b0
  · obtain ⟨b1, b0, rfl⟩ := held
    refine ⟨_, rfl, ?_, ?_, fun _ other => absurd rfl (other b1 b0)⟩ <;> split <;> rfl
  · simp only [not_exists] at held
    obtain ⟨t, next, changes, still⟩ := exec_changes running held s
    obtain ⟨localTime, inReset, choices, pending⟩ := changes.clock
    exact ⟨t, next, pending, choices, fun _ _ => ⟨localTime, inReset, still⟩⟩

/-! ## The reply of a request (R182) -/

theorem RequestKind.ofCode_code (k : RequestKind) : RequestKind.ofCode k.code = some k := by
  cases k <;> rfl

theorem State.Answers.reply {s t : State} {k : RequestKind} (h : s.Answers k t) :
    ∃ u r, s.Untouched u ∧ t = u.pushReply r ∧ r.about = some k ∧
      ∀ about code field tag, r = .reject about code field tag → u = s := by
  obtain ⟨code, field, tag, e⟩ | ⟨u, r, works, e, about, accepted⟩ := h
  · exact ⟨s, _, .refl s, e, rfl, fun _ _ _ _ _ => rfl⟩
  · refine ⟨u, r, works.untouched, e, about, fun _ _ _ _ rejected => ?_⟩
    rw [rejected] at accepted
    cases accepted

/-- The decision of a frame gives one reply, of the frame's kind, and nothing else where that is a REJECT. -/
theorem FrameDecision.reply {i : Instr} {f : Frame} {d : State → State} (decision : FrameDecision i f d)
    (lawful : WellFormed i = true) (s : State) :
    ∃ u r, s.Untouched u ∧ d s = u.pushReply r ∧
      r.kind = (if (RequestKind.ofCode f.kind).isSome then f.kind ||| 0x80 else 0xFF) ∧
      ∀ about code field tag, r = .reject about code field tag → u = s := by
  obtain ⟨k, kind, answers⟩ | ⟨rfl, rfl⟩ := decision
  · obtain ⟨u, r, untouched, e, about, rejects⟩ := (answers s).reply
    refine ⟨u, r, untouched, e, ?_, rejects⟩
    rw [← kind, RequestKind.ofCode_code, Reply.kind, about]
    rfl
  · have unknown : RequestKind.ofCode f.kind = none := by
      have : (RequestKind.ofCode f.kind).isNone = true ∧ f.body.length ≤ 247 := by simpa [WellFormed] using lawful
      simpa using this.1
    refine ⟨s, _, .refl s, rfl, ?_, fun _ _ _ _ _ => rfl⟩
    rw [unknown]
    rfl

/-- Settles O4: the decision of the taken frame writes neither queue but for its one reply. -/
theorem takenRequestReceivesOneReply : Obligations.TakenRequestReceivesOneReply := by
  intro s i f lawful frame takes
  obtain ⟨d, runs, decision⟩ := exec_frameDecision frame
  obtain ⟨u, r, untouched, decided, kind, rejects⟩ := decision.reply lawful s.afterTaking
  have requests : u.link.requestQueue = s.link.requestQueue.tail := by
    rw [untouched.requestQueue, ← List.drop_one]
    rfl
  have replies : (u.pushReply r).link.replyQueue = s.link.replyQueue ++ [r] := by
    rw [State.pushReply_link, untouched.replyQueue]
    rfl
  refine ⟨u.pushReply r, r, ?_, requests, replies, kind, fun _ _ _ _ rejected => ?_, ?_⟩
  · rw [runs, State.request_takes takes, decided]
  · rw [rejects _ _ _ _ rejected]
  · have asserted : (u.pushReply r).rhold = decide (6 ≤ u.link.requestQueue.length) := rfl
    rw [asserted, decide_eq_true_iff, requests, List.length_tail]
    omega

end Sys2Proof.Machine
end

section
/-! SUPPORT. One step of the part as changes, an end of a reset or a millisecond, and the induction over a step said once: what
holds of the next state when each of these keeps it. -/

namespace Sys2Proof.Machine

variable {s t : State}

/-! ## What the part does by itself (log 2, log 3) -/

theorem pick_mem {l : List (Option Instr)} (some_option : l ≠ []) (k : Nat) : pick l k ∈ l := by
  have inside : k % l.length < l.length := Nat.mod_lt _ (List.length_pos_iff.mpr some_option)
  rw [pick, List.getElem?_eq_getElem inside]
  exact List.getElem_mem inside

theorem mem_eventIf {b : Bool} {i c : Instr} : c ∈ eventIf b i ↔ b = true ∧ c = i := by
  cases b <;> simp [eventIf]

theorem State.signalEvents_of_due (due : s.dueEvents = []) : s.signalEvents = [] := by
  simp only [State.dueEvents, List.append_eq_nil_iff] at due
  exact due.1.1.1.1.1.1

theorem State.boundaryEvents_of_due (due : s.dueEvents = []) : s.boundaryEvents = [] := by
  simp only [State.dueEvents, List.append_eq_nil_iff] at due
  exact due.1.1.2

theorem State.none_mem_idleOptions : none ∈ s.idleOptions ↔ s.dueEvents = [] := by
  unfold State.idleOptions
  split
  next answers => simpa using fun due => answers (State.signalEvents_of_due due)
  next =>
    split
    next boundary => simpa using fun due => boundary (State.boundaryEvents_of_due due)
    next => by_cases due : s.dueEvents = [] <;> simp [due]

theorem State.idleOptions_ne_nil (s : State) : s.idleOptions ≠ [] := by
  by_cases due : s.dueEvents = []
  · exact List.ne_nil_of_mem (State.none_mem_idleOptions.mpr due)
  · unfold State.idleOptions
    split
    · simpa using ‹_›
    · split <;> simp_all

/-- A part that is not in reset takes one of its options, with the count of choices raised where there are several. -/
theorem State.idle_takes (running : s.inReset = false) :
    ∃ o ∈ s.idleOptions, s.idle = s.idleTake o ∨ s.idle = ({ s with choices := s.choices + 1 } : State).idleTake o := by
  unfold State.idle
  rw [if_neg (by simp [running])]
  split
  next o only => exact ⟨o, by simp [only], .inl rfl⟩
  next => exact ⟨_, pick_mem s.idleOptions_ne_nil _, .inr rfl⟩

/-! ## One step -/

/-- What one step can do to a state, the model's own two fields apart. -/
inductive State.Moves (u t : State) : Prop
  /-- Every command but the two ends of a reset, and every event of the part's own. -/
  | changes (changes : u.Changes t) (held : u.inReset = true → t = u)
  | powerOn (next : exec .powerOnReset u = .next t)
  | resetEnd (b1 b0 : Bool) (next : exec (.resetEnd b1 b0) u = .next t)
  /-- A millisecond passes when nothing is due. -/
  | tick (running : u.inReset = false) (due : u.dueEvents = []) (next : t = u.tick)

theorem exec_moves {i : Instr} {u : State} (next : exec i u = .next t) : u.Moves t := by
  by_cases running : i = .powerOnReset
  · exact .powerOn (running ▸ next)
  by_cases held : ∃ b1 b0, i = .resetEnd b1 b0
  · obtain ⟨b1, b0, rfl⟩ := held
    exact .resetEnd b1 b0 next
  · simp only [not_exists] at held
    obtain ⟨t', next', changes, still⟩ := exec_changes running held u
    obtain rfl : t = t' := Host.Outcome.next.inj (next.symm.trans next')
    exact .changes changes still

theorem State.idleTake_moves {u : State} {o : Option Instr} (running : u.inReset = false) (option : none = o → u.dueEvents = [])
    (next : u.idleTake o = .next t) : u.Moves t := by
  cases o with
  | some c => exact exec_moves next
  | none => exact .tick running (option rfl) (Host.Outcome.next.inj next).symm

theorem step_moves (next : step s = .next t) :
    ∃ u : State, u = { s with pending := u.pending, choices := u.choices } ∧ u.Moves t := by
  unfold step at next
  split at next
  next c rest _ => exact ⟨{ s with pending := rest }, rfl, exec_moves next⟩
  next =>
    by_cases running : s.inReset = false
    · obtain ⟨o, option, taken⟩ := State.idle_takes running
      have due : none = o → s.dueEvents = [] := fun h => State.none_mem_idleOptions.mp (h ▸ option)
      obtain taken | taken := taken <;> rw [taken] at next
      · exact ⟨s, rfl, State.idleTake_moves running due next⟩
      · exact ⟨{ s with choices := s.choices + 1 }, rfl, State.idleTake_moves running due next⟩
    · rw [State.idle, if_pos (by simpa using running)] at next
      obtain rfl := Host.Outcome.next.inj next
      exact ⟨s, rfl, .changes .refl fun _ => rfl⟩

/-- A predicate that works and events of the link port keep is kept by changes. -/
theorem State.Changes.keeps {P : State → Prop} (work : ∀ s u, P s → s.Work u → P u)
    (link : ∀ s k, P s → s.link.Event k → P { s with link := k }) (changes : s.Changes t) (holds : P s) : P t := by
  induction changes with
  | refl => exact holds
  | tail _ change ih =>
    cases change with
    | work done => exact work _ _ ih done
    | link event => exact link _ _ ih event

theorem State.Works.keeps {P : State → Prop} (work : ∀ s u, P s → s.Work u → P u) (works : s.Works t) (holds : P s) : P t := by
  induction works with
  | refl => exact holds
  | tail _ done ih => exact work _ _ ih done

/-- A predicate that each kind of move keeps, and that does not read the model's own fields, is kept by every step. -/
theorem step_keeps {P : State → Prop} (own : ∀ s pending choices, P s → P { s with pending := pending, choices := choices })
    (work : ∀ s u, P s → s.Work u → P u) (link : ∀ s k, P s → s.link.Event k → P { s with link := k })
    (powerOn : P State.powerOn) (resetEnd : ∀ s b1 b0 t, P s → exec (.resetEnd b1 b0) s = .next t → P t)
    (tick : ∀ s, P s → P s.tick) (next : step s = .next t) (holds : P s) : P t := by
  obtain ⟨u, same, moves⟩ := step_moves next
  have before : P u := by
    rw [same]
    exact own s _ _ holds
  cases moves with
  | changes changes => exact changes.keeps work link before
  | powerOn reset =>
    obtain rfl := Host.Outcome.next.inj reset
    exact own _ _ _ powerOn
  | resetEnd b1 b0 ended => exact resetEnd u b1 b0 t before ended
  | tick _ _ ticked =>
    rw [ticked]
    exact tick u before

end Sys2Proof.Machine
end

section
/-! PROOFS. Every step keeps configuration and governor fields in their ranges (R1, R113, R115, R133, R148). -/

namespace Sys2Proof.Machine

variable {s u : State}

/-! ## What the ranges read -/

theorem State.InRange.congr (range : s.InRange) (sectors : u.sectors = s.sectors) (governor : u.governor = s.governor)
    (settings : u.settings = s.settings) : u.InRange := by
  have sector : ∀ t, u.sector t = s.sector t := State.sector_congr sectors
  constructor <;> simp only [sector, governor, settings]
  exacts [range.sectors, range.activeTable, range.stagedTable, range.activePeriod, range.stagedPeriod, range.settings,
    range.floor]

theorem State.Fixed.inRange (fixed : s.Fixed u) (range : s.InRange) (sectors : u.sectors = s.sectors) : u.InRange :=
  range.congr sectors fixed.governor fixed.settings

/-- Writing one sector record asks for that record's ranges, and for its level above the floor of an open window. -/
theorem State.InRange.setSector (range : s.InRange) {t : SectorId} {r : Sector} (record : r.InRange t)
    (floor : ∀ w, s.governor.surge = some w → r.state ≠ .disabled → w.floor ≤ r.level) : (s.setSector t r).InRange where
  sectors u := by
    rw [State.sector_setSector]
    split
    next here => exact here ▸ record
    next => exact range.sectors u
  activeTable := range.activeTable
  stagedTable := range.stagedTable
  activePeriod := range.activePeriod
  stagedPeriod := range.stagedPeriod
  settings := range.settings
  floor w opened u := by
    rw [State.sector_setSector]
    split
    next => exact floor w opened
    next => exact range.floor w opened u

/-- Another state of a sector, not one that enables it. -/
theorem State.InRange.setState (range : s.InRange) (t : SectorId) (x : SectorState)
    (enables : x ≠ .disabled → (s.sector t).state ≠ .disabled) : (s.setSector t { s.sector t with state := x }).InRange :=
  range.setSector { range.sectors t with } fun w opened enabled => range.floor w opened t (enables enabled)

/-! ## The sector requests (R10 to R19) -/

theorem State.InRange.settled (range : s.InRange) (t : SectorId) : (s.settled t).InRange := by
  unfold State.settled
  split
  next draining => exact range.setState t .drained fun _ => by simp [draining.1]
  next => exact range

theorem toSector_inj {a b : Octet} (ha : a.toNat ≤ 15) (hb : b.toNat ≤ 15) (same : toSector a = toSector b) : a = b := by
  have : a.toNat % 16 = b.toNat % 16 := congrArg Fin.val same
  apply BitVec.eq_of_toNat_eq
  omega

theorem floored_floor (w : Surge) (l : LevelId) : w.floor ≤ floored (some w) l := by
  rw [floored_eq_max]
  exact le_max_right _ _

/-- The record that an accepted SECTOR-SET writes lies in its ranges (R10, R11, R12). -/
theorem State.AcceptsSectorSet.inRange {f : SectorSetFields} (accepted : s.AcceptsSectorSet f) {r : Sector}
    (range : r.InRange (toSector f.sector)) (w : Option Surge) : (r.rewritten f w).InRange (toSector f.sector) := by
  have written : (r.written f).InRange (toSector f.sector) :=
    { capacity := accepted.capacity
      generalGuard := accepted.guards.2
      priorityGuard := accepted.guards.1
      neighbourCount := by
        have := accepted.neighbourCount
        simp only [Sector.written, List.length_map, listedNeighbours, List.length_take]
        omega
      neighboursDistinct := accepted.neighboursDistinct.map_on fun a ha b hb same =>
        toSector_inj (accepted.neighbours a ha).1 (accepted.neighbours b hb).1 same
      neighbourNotSelf := by
        intro self
        obtain ⟨o, listed, same⟩ := List.mem_map.mp self
        exact (accepted.neighbours o listed).2 (toSector_inj (accepted.neighbours o listed).1 accepted.sector same)
      weight := accepted.weight
      depth := ⟨accepted.depth, Nat.le_of_lt_succ f.depth.isLt⟩
      tokens := Nat.min_le_right _ _
      pressure := range.pressure }
  unfold Sector.rewritten
  split
  · exact { written with tokens := Nat.le_refl _, pressure := Nat.zero_le _ }
  · exact written

theorem State.refit_sectors (s : State) (t : SectorId) (f : SectorSetFields) :
    (s.refit t f).sectors = s.sectors.set t ((s.sector t).rewritten f s.governor.surge) := by
  rw [State.refit, dropEarmarks_frame, resizeSlots_frame]
  rfl

theorem State.InRange.refit (range : s.InRange) {f : SectorSetFields} (accepted : s.AcceptsSectorSet f) :
    (s.refit (toSector f.sector) f).InRange := by
  refine State.Fixed.inRange (s := s.setSector _ _) ((resizeSlots_fixed _ _ _ _ _ _).trans (dropEarmarks_fixed _ _))
    (range.setSector (accepted.inRange (range.sectors _) s.governor.surge) fun w opened _ => ?_) (State.refit_sectors s _ f)
  unfold Sector.rewritten
  split
  next => rw [opened]; exact floored_floor w 0
  next enabled => exact range.floor w opened _ enabled

theorem State.draining_sectors (s : State) (t : SectorId) :
    (s.draining t).sectors = s.sectors.set t { s.sector t with state := .draining } := by
  rw [State.draining_frame]

theorem State.InRange.draining (range : s.InRange) {t : SectorId} (opened : (s.sector t).state = .opened) :
    (s.draining t).InRange :=
  (dropEarmarks_fixed _ _).inRange (range.setState t .draining fun _ => by simp [opened]) (State.draining_sectors s t)

theorem State.InRange.disable (range : s.InRange) (t : SectorId) : (s.disable t).InRange :=
  (resizeSlots_fixed _ _ _ _ _ _).inRange (range.setState t .disabled fun other => absurd rfl other)
    (by rw [resizeSlots_frame])

/-! ## The governor's requests and events (R114 to R116, R129 to R134, R148) -/

theorem toLevel_eq_zero {o : Octet} (known : o.toNat ≤ 7) (zero : toLevel o = 0) : o = 0 := by
  have : o.toNat % 8 = 0 := congrArg Fin.val zero
  have : o.toNat = 0 := by omega
  exact BitVec.eq_of_toNat_eq this

/-- The row that an accepted LEVEL-SET writes lies in its ranges (R114). -/
theorem writtenRow_inRange {f : LevelSetFields} (accepted : fieldFault (levelSetChecks f) = none) :
    (writtenRow f).InRange (toLevel f.level) := by
  simp only [fieldFault_eq_none_iff, levelSetChecks, List.mem_cons, List.not_mem_nil, or_false, forall_eq_or_imp, forall_eq,
    decide_eq_true_eq] at accepted
  obtain ⟨level, threshold, refill, barPct, barTime, base⟩ := accepted
  refine ⟨threshold.1, fun zero => ?_, refill, barPct.1, barPct.2, barTime.1, barTime.2, base⟩
  simp [writtenRow, threshold.2 (toLevel_eq_zero level zero)]

theorem State.InRange.stageRow (range : s.InRange) {f : LevelSetFields} (accepted : fieldFault (levelSetChecks f) = none) :
    (s.stageRow (toLevel f.level) (writtenRow f)).InRange :=
  { range with
    stagedTable := fun l => by
      rw [State.stageRow, Table.get_set]
      split
      next here => exact here ▸ writtenRow_inRange accepted
      next => exact range.stagedTable l }

theorem State.InRange.applyTimerSet (range : s.InRange) {f : TimerSetFields} (accepted : fieldFault (timerSetChecks f) = none) :
    (s.applyTimerSet f).InRange := by
  simp only [fieldFault_eq_none_iff, timerSetChecks, List.mem_cons, List.not_mem_nil, or_false, forall_eq_or_imp, forall_eq,
    decide_eq_true_eq] at accepted
  obtain ⟨general, priority, emergency, escalation, vacate, window, jitter, -, period⟩ := accepted
  exact
    { range with
      stagedPeriod := period
      settings :=
        { generalWait := ⟨general, Nat.le_of_lt_succ f.generalWait.isLt⟩
          priorityWait := ⟨priority, Nat.le_of_lt_succ f.priorityWait.isLt⟩
          emergencyWait := ⟨emergency, Nat.le_of_lt_succ f.emergencyWait.isLt⟩
          escalationTime := escalation
          vacateTimeout := vacate
          repeatWindow := window
          jitter := jitter } }

theorem State.InRange.copy (range : s.InRange) : ({ s with governor := s.governor.copyStaged } : State).InRange :=
  { range with activeTable := range.stagedTable, activePeriod := range.stagedPeriod }

theorem State.raised_governor (s : State) (w : Surge) : (s.raised w).governor = { s.governor with surge := some w } := by
  simp only [State.raised]

theorem State.raised_sector (s : State) (w : Surge) (t : SectorId) : (s.raised w).sector t = s.raisedRecord w.floor t := by
  rw [← State.raisedWith_sector]
  simp only [State.raised, State.sector]

theorem State.raisedRecord_inRange (range : s.InRange) (floor : LevelId) (t : SectorId) : (s.raisedRecord floor t).InRange t := by
  unfold State.raisedRecord
  split
  · exact { range.sectors t with }
  · exact range.sectors t

/-- Every sector stands at or above the floor of a window that opens (R129, item 2). -/
theorem State.raisedRecord_floor {floor : LevelId} {t : SectorId} (enabled : (s.raisedRecord floor t).state ≠ .disabled) :
    floor ≤ (s.raisedRecord floor t).level := by
  unfold State.raisedRecord at enabled ⊢
  split
  next => exact le_refl _
  next above =>
    rw [if_neg above] at enabled
    simpa [State.standsBelow, enabled] using above

theorem State.InRange.raised (range : s.InRange) (w : Surge) : (s.raised w).InRange where
  sectors t := State.raised_sector s w t ▸ State.raisedRecord_inRange range w.floor t
  activeTable := by rw [State.raised_governor]; exact range.activeTable
  stagedTable := by rw [State.raised_governor]; exact range.stagedTable
  activePeriod := by rw [State.raised_governor]; exact range.activePeriod
  stagedPeriod := by rw [State.raised_governor]; exact range.stagedPeriod
  settings := by simpa only [State.raised] using range.settings
  floor v opened t enabled := by
    rw [State.raised_governor] at opened
    obtain rfl : w = v := Option.some.inj opened
    rw [State.raised_sector] at enabled ⊢
    exact State.raisedRecord_floor enabled

/-- Another surge window whose floor is that of the window that stood, or none. -/
theorem State.InRange.setSurge (range : s.InRange) (w : Option Surge)
    (floor : ∀ v, w = some v → ∃ x, s.governor.surge = some x ∧ v.floor = x.floor) : (s.setSurge w).InRange :=
  { range with
    floor := fun v opened t enabled => by
      obtain ⟨x, before, same⟩ := floor v opened
      rw [same]
      exact range.floor x before t enabled }

theorem State.InRange.restart (range : s.InRange) : s.restart.InRange := by
  have record : ∀ t, s.restart.sector t = (s.sector t).restarted := by
    intro t
    rw [State.restart, State.restartScreening_frame]
    exact Table.get_map _ _ _
  rw [State.restart, State.restartScreening_frame] at record ⊢
  exact
    { range with
      sectors := fun t => by
        rw [record]
        exact { range.sectors t with }
      floor := nofun }

/-! ## Every step -/

theorem State.clearBeneficiary_sectors (s : State) (b : Option Tag) : (s.clearBeneficiary b).sectors = s.sectors := by
  cases b <;> rfl

theorem State.discardEntry_sectors (s : State) (c : CallClass) (e : Waiting) : (s.discardEntry c e).sectors = s.sectors := by
  rw [State.discardEntry, State.removeWaiting, State.setWaiting_sectors, State.dropEarmarkOf]
  split
  · rw [State.dropEarmark_frame]
  · rfl

theorem State.recordRefusal_frame (s : State) (k : CallerKey) :
    s.recordRefusal k = { s with repeatTable := (s.recordRefusal k).repeatTable } := by
  unfold State.recordRefusal
  split
  · rfl
  · split <;> rfl

theorem State.Work.keeps_inRange (range : s.InRange) (work : s.Work u) : u.InRange := by
  cases work with
  | govern t r shape written => exact range.setSector (written range).1 (written range).2
  | empty =>
    exact State.InRange.settled (((s.clearBeneficiary_fixed _).trans (State.setSlot_fixed _ _ _ _)).inRange range
      (s.clearBeneficiary_sectors _)) _
  | refit accepted => exact range.refit accepted
  | drain opened => exact (range.draining opened).settled _
  | @resume t leaving => exact range.setState t .opened fun _ => by rcases leaving with h | h <;> simp [h]
  | disable => exact range.disable _
  | stageRow accepted => exact range.stageRow accepted
  | timers accepted => exact range.applyTimerSet accepted
  | copy => exact range.copy
  | openSurge => exact range.raised _
  | notice opened => exact range.setSurge _ fun v h => ⟨_, opened, by rw [← Option.some.inj h]⟩
  | extend opened => exact range.setSurge _ fun v h => ⟨_, opened, by rw [← Option.some.inj h]; rfl⟩
  | closeSurge => exact range.setSurge none nofun
  | restart => exact range.restart
  | offer r => exact (s.offerStatus_fixed r).inRange range (s.offerStatus_sectors r)
  | touch c g => exact (s.setWaiting_fixed c _).inRange range (s.setWaiting_sectors c _)
  | grant => exact ((s.setSlot_fixed _ _ _).trans (State.setWaiting_fixed _ _ _)).inRange range (State.setWaiting_sectors _ _ _)
  | giveUp =>
    exact ((s.setSlot_fixed _ _ _).trans (State.clearBeneficiary_fixed _ _)).inRange range (State.clearBeneficiary_sectors _ _)
  | join => exact (s.setWaiting_fixed _ _).inRange range (State.setWaiting_sectors _ _ _)
  | discard => exact (s.discardEntry_fixed _ _).inRange range (s.discardEntry_sectors _ _)
  | refusal k =>
    rw [State.recordRefusal_frame]
    exact range.congr rfl rfl rfl
  | _ => exact range.congr rfl rfl rfl

theorem powerOn_inRange : State.powerOn.InRange where
  sectors t := by
    rw [State.sector, State.powerOn, Table.get_replicate]
    exact sectorInRange_of (by simp [Sector.powerOn])
  activeTable := by unfold LevelRow.InRange; decide
  stagedTable := by unfold LevelRow.InRange; decide
  activePeriod := by unfold PeriodInRange; decide
  stagedPeriod := by unfold PeriodInRange; decide
  settings := by constructor <;> decide
  floor := nofun

/-- Settles O56: works keep the ranges, and no other move writes what they read. -/
theorem stepKeepsTheRanges : Obligations.StepKeepsTheRanges := by
  intro s t range next
  refine step_keeps (P := State.InRange) (fun s _ _ range => range.congr rfl rfl rfl) (fun s u => State.Work.keeps_inRange)
    (fun s _ range _ => range.congr rfl rfl rfl) powerOn_inRange (fun s b1 b0 t range ended => ?_)
    (fun s range => range.congr rfl rfl rfl) next range
  obtain rfl := Host.Outcome.next.inj ended
  split
  · exact { range with }
  · exact range

end Sys2Proof.Machine
end

section
/-! SUPPORT. The link port over works and its own events: its bounds (R157, R165, R173, R178 to R180, R182) and the laws of its lanes
(R158, R164, R183). -/

namespace Sys2Proof.Machine

variable {s u : State} {k : LinkPort}

/-! ## What works do to the link port -/

theorem dropEarmarks_keeps_link (l : List Place) (s : State) : (dropEarmarks l s).link = s.link := by
  rw [dropEarmarks_frame]

theorem State.clearBeneficiary_link (s : State) (b : Option Tag) : (s.clearBeneficiary b).link = s.link := by
  cases b <;> rfl

theorem State.settled_link (s : State) (t : SectorId) : (s.settled t).link = s.link := by
  unfold State.settled
  split <;> rfl

theorem State.discardEntry_link (s : State) (c : CallClass) (e : Waiting) : (s.discardEntry c e).link = s.link := by
  rw [State.discardEntry, State.removeWaiting, State.setWaiting_link, State.dropEarmarkOf]
  split
  · rw [State.dropEarmark_frame]
  · rfl

/-- Works place action reports, offer status reports, and restart the port; else they leave it alone. -/
theorem State.Work.link_cases (work : s.Work u) :
    u.link = s.link ∨ (∃ r, s.link.actionLane.length < 48 ∧ u.link = { s.link with actionLane := s.link.actionLane ++ [r] }) ∨
      (∃ r, u.link = (s.offerStatus r).link) ∨ u.link = s.link.restarted := by
  cases work with
  | place r room => exact .inr (.inl ⟨r, room, rfl⟩)
  | offer r => exact .inr (.inr (.inl ⟨r, rfl⟩))
  | restart =>
    rw [State.restart, State.restartScreening_frame]
    exact .inr (.inr (.inr rfl))
  | touch => exact .inl (State.setWaiting_link _ _ _)
  | grant => exact .inl (State.setWaiting_link _ _ _)
  | empty =>
    rw [State.settled_link, State.setSlot_link, State.clearBeneficiary_link]
    exact .inl rfl
  | giveUp =>
    rw [State.clearBeneficiary_link]
    exact .inl rfl
  | join => exact .inl (State.setWaiting_link _ _ _)
  | discard => exact .inl (s.discardEntry_link _ _)
  | refit => exact .inl (s.refit_link _ _)
  | drain =>
    rw [State.settled_link, State.draining_frame]
    exact .inl rfl
  | disable =>
    rw [State.disable_frame]
    exact .inl rfl
  | refusal =>
    rw [State.recordRefusal_frame]
    exact .inl rfl
  | openSurge => exact .inl (by simp only [State.raised])
  | _ => exact .inl rfl

/-! ## Bounds -/

/-- The queues, lanes and counters of the link port hold no more than the spec gives them. -/
structure LinkPort.Bounded (k : LinkPort) : Prop where
  actionLane : k.actionLane.length ≤ 48
  statusLane : k.statusLane.length ≤ 32
  requestQueue : k.requestQueue.length ≤ 8
  replyQueue : k.replyQueue.length ≤ 8
  noiseRun : k.noiseRun ≤ 3
  gapCount : k.gapCount ≤ 65535
  checkCount : k.checkCount ≤ 65535
  overrunCount : k.overrunCount ≤ 65535
  statusLost : k.statusLost ≤ 65535
  receiver : k.receiver.InBounds

theorem bump_le {n : Nat} (h : n ≤ 65535) : bump n ≤ 65535 := by
  obtain ⟨_, e⟩ | ⟨_, e⟩ := bump_cases n <;> omega

theorem LinkPort.Bounded.countLoss (bounded : k.Bounded) (why : LossKind) : (k.countLoss why).Bounded := by
  cases why with
  | gap => exact { bounded with gapCount := bump_le bounded.gapCount }
  | check => exact { bounded with checkCount := bump_le bounded.checkCount }

theorem LinkPort.Bounded.event {k' : LinkPort} (bounded : k.Bounded) (event : k.Event k') : k'.Bounded := by
  cases event with
  | receiver bounds => exact { bounded with receiver := bounds bounded.receiver }
  | lost why bound => exact { bounded.countLoss why with noiseRun := bound bounded.noiseRun, receiver := trivial }
  | joined f room => exact { bounded with noiseRun := Nat.zero_le _, requestQueue := by simpa using room }
  | overrun => exact { bounded with noiseRun := Nat.zero_le _, overrunCount := bump_le bounded.overrunCount }
  | arrived => exact { bounded with noiseRun := Nat.zero_le _ }
  | taken =>
    refine { bounded with requestQueue := ?_ }
    rw [List.length_drop]
    exact Nat.le_trans (Nat.sub_le _ _) bounded.requestQueue
  | reply r room => exact { bounded with replyQueue := by simpa using room }
  | @ended d _ =>
    obtain ⟨src, octets, elapsed⟩ := d
    have shorter : ∀ {α : Type} {l : List α} {n : Nat}, l.length ≤ n → (l.drop 1).length ≤ n := fun h => by
      rw [List.length_drop]
      exact Nat.le_trans (Nat.sub_le _ _) h
    cases src with
    | action => exact { bounded with actionLane := shorter bounded.actionLane }
    | reply => exact { bounded with replyQueue := shorter bounded.replyQueue }
    | status => exact { bounded with statusLane := shorter bounded.statusLane }
  | _ => exact { bounded with }

theorem LinkPort.Bounded.offerStatus (bounded : s.link.Bounded) (r : StatusReport) : (s.offerStatus r).link.Bounded := by
  obtain ⟨l, same, h⟩ | ⟨room, h⟩ | ⟨_, h⟩ := s.offerStatus_cases r <;> rw [h]
  · exact { bounded with statusLane := same ▸ bounded.statusLane }
  · exact { bounded with statusLane := by simpa using room }
  · exact { bounded with statusLost := bump_le bounded.statusLost }

theorem LinkPort.Bounded.work (bounded : s.link.Bounded) (work : s.Work u) : u.link.Bounded := by
  obtain h | ⟨r, room, h⟩ | ⟨r, h⟩ | h := work.link_cases <;> rw [h]
  · exact bounded
  · exact { bounded with actionLane := by simpa using room }
  · exact bounded.offerStatus r
  · refine
      { bounded with
        statusLane := ?_, gapCount := Nat.zero_le _, checkCount := Nat.zero_le _, overrunCount := Nat.zero_le _,
        noiseRun := Nat.zero_le _ }
    exact Nat.le_trans (List.length_take_le' _ _) bounded.statusLane

/-! ## The lanes -/

/-- The frame in transmission is the frame of the head of its lane or queue, and no unsent status report is one that a later one
supersedes (R158, R164, R183). -/
def LinkPort.LanesLawful (k : LinkPort) : Prop :=
  (∀ d, k.sending = some d → ∃ f, k.headFrame d.source = some f ∧ d.octets = wireFrame f.kind f.body) ∧
    (k.statusLane.drop k.statusInTransmission).Pairwise (fun old new => new.supersedes old = false)

theorem State.lanesLawful_iff (s : State) : s.LanesLawful ↔ s.link.LanesLawful := by
  constructor
  · intro lawful
    refine ⟨fun d sending => ?_, lawful.unsent⟩
    cases source : d.source with
    | action =>
      obtain ⟨a, head, octets⟩ := lawful.action d sending source
      exact ⟨⟨a.kind, a.body⟩, by simp [LinkPort.headFrame, head], octets⟩
    | reply =>
      obtain ⟨r, head, octets⟩ := lawful.reply d sending source
      exact ⟨⟨r.kind, r.body⟩, by simp [LinkPort.headFrame, head], octets⟩
    | status =>
      obtain ⟨x, head, octets⟩ := lawful.status d sending source
      exact ⟨⟨x.kind, x.body⟩, by simp [LinkPort.headFrame, head], octets⟩
  · rintro ⟨frames, unsent⟩
    refine ⟨fun d sending source => ?_, fun d sending source => ?_, fun d sending source => ?_, unsent⟩
    all_goals
      obtain ⟨f, head, octets⟩ := frames d sending
      rw [source] at head
      obtain ⟨x, lane, rfl⟩ := Option.map_eq_some_iff.mp head
      exact ⟨x, lane, octets⟩

theorem head?_append_of_some {α : Type} {l : List α} {x : α} (h : l.head? = some x) (m : List α) : (l ++ m).head? = some x := by
  simp [h]

/-- A port whose lanes keep their heads and whose status lane and frame in transmission stand keeps the lanes' laws. -/
theorem LinkPort.LanesLawful.congr {k' : LinkPort} (lawful : k.LanesLawful) (sending : k'.sending = k.sending)
    (heads : ∀ src f, k.headFrame src = some f → k'.headFrame src = some f) (status : k'.statusLane = k.statusLane) :
    k'.LanesLawful := by
  have transmitted : k'.statusInTransmission = k.statusInTransmission := by simp only [LinkPort.statusInTransmission, sending]
  refine ⟨fun d h => ?_, by rw [status, transmitted]; exact lawful.2⟩
  obtain ⟨f, head, octets⟩ := lawful.1 d (sending ▸ h)
  exact ⟨f, heads _ f head, octets⟩

theorem LinkPort.headFrame_append_action (k : LinkPort) (r : ActionReport) (src : Source) (f : Frame)
    (head : k.headFrame src = some f) : ({ k with actionLane := k.actionLane ++ [r] } : LinkPort).headFrame src = some f := by
  cases src with
  | action =>
    obtain ⟨a, lane, rfl⟩ := Option.map_eq_some_iff.mp head
    simp [LinkPort.headFrame, head?_append_of_some lane]
  | reply => exact head
  | status => exact head

theorem LinkPort.headFrame_append_reply (k : LinkPort) (r : Reply) (src : Source) (f : Frame)
    (head : k.headFrame src = some f) : ({ k with replyQueue := k.replyQueue ++ [r] } : LinkPort).headFrame src = some f := by
  cases src with
  | reply =>
    obtain ⟨a, lane, rfl⟩ := Option.map_eq_some_iff.mp head
    simp [LinkPort.headFrame, head?_append_of_some lane]
  | action => exact head
  | status => exact head

/-- A frame begins for the head of a lane or queue: a status report in transmission is no longer unsent. -/
theorem LinkPort.LanesLawful.begin {src : Source} {f : Frame} (lawful : k.LanesLawful) (idle : k.sending = none)
    (head : k.headFrame src = some f) :
    ({ k with sending := some { source := src, octets := wireFrame f.kind f.body, elapsed := 0 } } : LinkPort).LanesLawful := by
  have unsent : k.statusLane.Pairwise (fun old new => new.supersedes old = false) := by
    have := lawful.2
    rwa [LinkPort.statusInTransmission, idle] at this
  refine ⟨fun d h => ?_, unsent.sublist (List.drop_sublist _ _)⟩
  obtain rfl := Option.some.inj h
  refine ⟨f, ?_, rfl⟩
  cases src <;> exact head

/-- Once a frame has ended every status report that is left is unsent. -/
theorem LinkPort.LanesLawful.ended {d : Sending} (lawful : k.LanesLawful) (sending : k.sending = some d) :
    (k.ended d.source).LanesLawful := by
  obtain ⟨-, unsent⟩ := lawful
  simp only [LinkPort.statusInTransmission, sending] at unsent
  cases source : d.source <;> simp only [source] at unsent <;> exact ⟨nofun, unsent⟩

theorem LinkPort.countLoss_lanes (k : LinkPort) (why : LossKind) :
    (k.countLoss why).sending = k.sending ∧ (k.countLoss why).actionLane = k.actionLane ∧
      (k.countLoss why).replyQueue = k.replyQueue ∧ (k.countLoss why).statusLane = k.statusLane := by
  cases why <;> exact ⟨rfl, rfl, rfl, rfl⟩

theorem LinkPort.LanesLawful.event {k' : LinkPort} (lawful : k.LanesLawful) (event : k.Event k') : k'.LanesLawful := by
  cases event with
  | lost why _ =>
    obtain ⟨sending, action, reply, status⟩ := k.countLoss_lanes why
    refine lawful.congr sending (fun src f head => ?_) status
    cases src <;> simpa [LinkPort.headFrame, action, reply, status] using head
  | reply r _ => exact lawful.congr rfl (k.headFrame_append_reply r) rfl
  | begin idle head => exact lawful.begin idle head
  | ended sending => exact lawful.ended sending
  | _ => exact lawful.congr rfl (fun src f head => by cases src <;> exact head) rfl

/-! ### A status report offered (R164) -/

theorem StatusReport.supersedes_iff (r x : StatusReport) :
    r.supersedes x = true ↔ (∃ t l a b l' a' b', r = .level t l a b ∧ x = .level t l' a' b') ∨
      ∃ e f n e' f' n', r = .surge e f n ∧ x = .surge e' f' n' := by
  cases r <;> cases x <;> simp [StatusReport.supersedes, eq_comm]

/-- Reports that one report supersedes are superseded by the same reports. -/
theorem StatusReport.supersedes_congr {r x : StatusReport} (h : r.supersedes x = true) (y : StatusReport) :
    y.supersedes r = y.supersedes x := by
  obtain ⟨t, l, a, b, l', a', b', rfl, rfl⟩ | ⟨e, f, n, e', f', n', rfl, rfl⟩ := (r.supersedes_iff x).mp h <;>
    cases y <;> rfl

theorem replaceReport_mem {r x : StatusReport} {l : List StatusReport} (mem : x ∈ replaceReport r l) : x = r ∨ x ∈ l := by
  induction l with
  | nil => cases mem
  | cons o rest ih =>
    rw [replaceReport] at mem
    split at mem
    · exact (List.mem_cons.mp mem).imp_right (.tail _)
    · obtain rfl | later := List.mem_cons.mp mem
      · exact .inr (.head _)
      · exact (ih later).imp_right (.tail _)

/-- The report that replaces one supersedes none before it, as the one before it, and is superseded by none behind it. -/
theorem replaceReport_pairwise {r : StatusReport} {l : List StatusReport}
    (unsent : l.Pairwise (fun old new => new.supersedes old = false)) :
    (replaceReport r l).Pairwise (fun old new => new.supersedes old = false) := by
  induction l with
  | nil => exact unsent
  | cons o rest ih =>
    obtain ⟨first, later⟩ := List.pairwise_cons.mp unsent
    rw [replaceReport]
    split
    next superseded =>
      refine List.pairwise_cons.mpr ⟨fun y hy => ?_, later⟩
      rw [StatusReport.supersedes_congr superseded]
      exact first y hy
    next kept =>
      refine List.pairwise_cons.mpr ⟨fun y hy => ?_, ih later⟩
      obtain rfl | hy := replaceReport_mem hy
      · simpa using kept
      · exact first y hy

theorem statusInTransmission_cases (k : LinkPort) :
    (k.statusInTransmission = 0 ∧ ∀ d, k.sending = some d → d.source ≠ .status) ∨
      (k.statusInTransmission = 1 ∧ ∃ d, k.sending = some d ∧ d.source = .status) := by
  unfold LinkPort.statusInTransmission
  cases h : k.sending with
  | none => exact .inl ⟨rfl, nofun⟩
  | some d =>
    by_cases source : d.source = .status
    · exact .inr ⟨if_pos source, d, rfl, source⟩
    · exact .inl ⟨if_neg source, fun e he => Option.some.inj he ▸ source⟩

/-- Another status lane with the report in transmission at its head and with unsent reports of which none supersedes an older one. -/
theorem LinkPort.LanesLawful.setStatusLane (lawful : k.LanesLawful) {unsent : List StatusReport}
    (pairwise : unsent.Pairwise (fun old new => new.supersedes old = false)) :
    ({ k with statusLane := k.statusLane.take k.statusInTransmission ++ unsent } : LinkPort).LanesLawful := by
  obtain ⟨none_sent, other⟩ | ⟨one_sent, d, sending, source⟩ := statusInTransmission_cases k
  · refine ⟨fun d sending => ?_, ?_⟩
    · obtain ⟨f, head, octets⟩ := lawful.1 d sending
      refine ⟨f, ?_, octets⟩
      have unsent_source := other d sending
      revert head unsent_source
      cases d.source with
      | status => exact fun _ h => absurd rfl h
      | _ => exact fun head _ => head
    · simp only [none_sent, List.take_zero, List.nil_append]
      exact pairwise.sublist (List.drop_sublist _ _)
  · obtain ⟨f, head, octets⟩ := lawful.1 d sending
    rw [source] at head
    obtain ⟨x, lane, rfl⟩ := Option.map_eq_some_iff.mp head
    obtain ⟨rest, lane⟩ := List.head?_eq_some_iff.mp lane
    simp only [one_sent, lane, List.take_succ_cons, List.take_zero, List.cons_append, List.nil_append]
    refine ⟨fun e he => ?_, ?_⟩
    · obtain rfl : d = e := Option.some.inj (sending.symm.trans he)
      exact ⟨⟨x.kind, x.body⟩, by rw [source]; rfl, octets⟩
    · have still : ({ k with statusLane := x :: unsent } : LinkPort).statusInTransmission = 1 := one_sent
      rw [still]
      exact pairwise

theorem LinkPort.LanesLawful.offerStatus (lawful : s.link.LanesLawful) (r : StatusReport) :
    (s.offerStatus r).link.LanesLawful := by
  unfold State.offerStatus
  dsimp only
  split
  next => exact lawful.setStatusLane (replaceReport_pairwise lawful.2)
  next none_superseded =>
    split
    next =>
      have appended : (s.link.statusLane.drop s.link.statusInTransmission ++ [r]).Pairwise
          (fun old new => new.supersedes old = false) := by
        refine List.pairwise_append.mpr ⟨lawful.2, List.pairwise_singleton _ _, fun x hx y hy => ?_⟩
        obtain rfl := List.mem_singleton.mp hy
        simpa using fun superseded => none_superseded (List.any_eq_true.mpr ⟨x, hx, superseded⟩)
      have := lawful.setStatusLane appended
      rwa [← List.append_assoc, List.take_append_drop] at this
    next => exact lawful.congr rfl (fun src f head => by cases src <;> exact head) rfl

theorem LinkPort.LanesLawful.work (lawful : s.link.LanesLawful) (work : s.Work u) : u.link.LanesLawful := by
  obtain h | ⟨r, _, h⟩ | ⟨r, h⟩ | h := work.link_cases <;> rw [h]
  · exact lawful
  · exact lawful.congr rfl (s.link.headFrame_append_action r) rfl
  · exact lawful.offerStatus r
  · have kept := lawful.setStatusLane List.Pairwise.nil
    rw [List.append_nil] at kept
    exact kept.congr rfl (fun src f head => by cases src <;> exact head) rfl

end Sys2Proof.Machine
end

section
/-! SUPPORT. The waiting lists over works: entries leave, stay with their places' order, and at most one joins. -/

namespace Sys2Proof.Machine

variable {s t u : State}

/-! ## Entries that stay -/

/-- A waiting entry that stays: its earmark apart, it is written as in `Waiting.Touched`. -/
structure Waiting.Later (x y : Waiting) : Prop where
  tag : y.tag = x.tag
  cls : y.cls = x.cls
  key : y.key = x.key
  preemptible : y.preemptible = x.preemptible
  merged : x.merged ≤ 255 → y.merged ≤ 255
  watch : y.watch = .watched → x.watch = .watched ∧ y.deadline = x.deadline
  point : ∀ p, y.escalationPoint = some p → x.escalationPoint = some p

theorem Waiting.Later.refl (x : Waiting) : x.Later x := ⟨rfl, rfl, rfl, rfl, id, fun h => ⟨h, rfl⟩, fun _ => id⟩

theorem Waiting.Later.trans {x y z : Waiting} (a : x.Later y) (b : y.Later z) : x.Later z where
  tag := b.tag.trans a.tag
  cls := b.cls.trans a.cls
  key := b.key.trans a.key
  preemptible := b.preemptible.trans a.preemptible
  merged h := b.merged (a.merged h)
  watch h := by
    obtain ⟨watched, deadline⟩ := b.watch h
    exact ⟨(a.watch watched).1, deadline.trans (a.watch watched).2⟩
  point p h := a.point p (b.point p h)

theorem Waiting.Touched.later {x y : Waiting} (h : x.Touched y) : x.Later y :=
  ⟨h.tag, h.cls, h.key, h.preemptible, h.merged, h.watch, h.point⟩

theorem Waiting.Later.setEarmark (x : Waiting) (m : Option Place) : x.Later { x with earmark := m } :=
  ⟨rfl, rfl, rfl, rfl, id, fun h => ⟨h, rfl⟩, fun _ => id⟩

/-! ## Lists whose entries all stood before -/

/-- A list with entries of another, in its order. -/
structure Remains (l m : List Waiting) : Prop where
  tags : (m.map Waiting.tag).Sublist (l.map Waiting.tag)
  entries : ∀ y ∈ m, ∃ x ∈ l, x.Later y

theorem Remains.refl (l : List Waiting) : Remains l l := ⟨.refl _, fun y hy => ⟨y, hy, .refl y⟩⟩

theorem Remains.trans {l m n : List Waiting} (a : Remains l m) (b : Remains m n) : Remains l n where
  tags := b.tags.trans a.tags
  entries z hz := by
    obtain ⟨y, hy, later⟩ := b.entries z hz
    obtain ⟨x, hx, before⟩ := a.entries y hy
    exact ⟨x, hx, before.trans later⟩

theorem Remains.length {l m : List Waiting} (h : Remains l m) : m.length ≤ l.length := by
  simpa using h.tags.length_le

theorem Remains.of_sublist {l m : List Waiting} (h : m.Sublist l) : Remains l m :=
  ⟨h.map _, fun y hy => ⟨y, h.subset hy, .refl y⟩⟩

theorem Remains.of_map {l : List Waiting} {g : Waiting → Waiting} (later : ∀ x : Waiting, x.Later (g x)) : Remains l (l.map g) where
  tags := by
    rw [List.map_map, show Waiting.tag ∘ g = Waiting.tag from funext fun x => (later x).tag]
  entries y hy := by
    obtain ⟨x, hx, rfl⟩ := List.mem_map.mp hy
    exact ⟨x, hx, later x⟩

/-- Every waiting entry stood before, in the list it stands in, and of the lower classes with no new earmark. -/
structure State.Carries (s u : State) : Prop where
  lists : ∀ c, Remains (s.waiting c) (u.waiting c)
  plain : ∀ c, c ≠ .emergency → (∀ x ∈ s.waiting c, x.earmark = none) → ∀ y ∈ u.waiting c, y.earmark = none

theorem State.Carries.refl (s : State) : s.Carries s := ⟨fun _ => .refl _, fun _ _ => id⟩

theorem State.Carries.trans (a : s.Carries t) (b : t.Carries u) : s.Carries u :=
  ⟨fun c => (a.lists c).trans (b.lists c), fun c lower plain => b.plain c lower (a.plain c lower plain)⟩

theorem State.Carries.of_same (emergency : u.emergency = s.emergency) (priority : u.priority = s.priority)
    (general : u.general = s.general) : s.Carries u := by
  have same : u.waiting = s.waiting := funext fun c => by cases c <;> assumption
  exact ⟨fun c => same ▸ .refl _, fun c _ plain => same ▸ plain⟩

theorem State.Carries.setWaiting (s : State) {c : CallClass} {l : List Waiting} (remains : Remains (s.waiting c) l)
    (plain : (∀ x ∈ s.waiting c, x.earmark = none) → ∀ y ∈ l, y.earmark = none) : s.Carries (s.setWaiting c l) := by
  constructor
  all_goals
    intro d
    by_cases same : c = d
  · subst same
    rwa [State.waiting_setWaiting]
  · rw [State.waiting_setWaiting_ne s same]
    exact .refl _
  · subst same
    rw [State.waiting_setWaiting]
    exact fun _ => plain
  · rw [State.waiting_setWaiting_ne s same]
    exact fun _ => id

theorem State.Carries.setEarmark (s : State) (b : Tag) (m : Option Place) : s.Carries (s.setEarmark b m) := by
  have written : ∀ x : Waiting, x.Later (if x.tag = b then { x with earmark := m } else x) := fun x => by
    split
    · exact .setEarmark x m
    · exact .refl x
  constructor
  · rintro (_ | _ | _)
    · exact .of_map written
    · exact .refl _
    · exact .refl _
  · rintro (_ | _ | _) lower
    · exact absurd rfl lower
    · exact id
    · exact id

theorem State.Carries.clearBeneficiary (s : State) (b : Option Tag) : s.Carries (s.clearBeneficiary b) := by
  cases b with
  | none => exact .refl s
  | some b => exact .setEarmark s b none

theorem State.Carries.removeWaiting (s : State) (c : CallClass) (b : Tag) : s.Carries (s.removeWaiting c b) :=
  .setWaiting s (.of_sublist List.eraseP_sublist) fun plain y hy => plain y (List.mem_of_mem_eraseP hy)

theorem State.Carries.setSlot (s : State) (t : SectorId) (n : SlotId) (x : Slot) : s.Carries (s.setSlot t n x) :=
  .of_same rfl rfl rfl

theorem State.Carries.dropEarmark (s : State) (t : SectorId) (n : SlotId) : s.Carries (s.dropEarmark t n) := by
  obtain ⟨c, v, b, _, _, h⟩ | ⟨_, h⟩ := s.dropEarmark_cases t n <;> rw [h]
  · exact (State.Carries.setSlot s t n _).trans (.setEarmark _ b none)
  · exact .refl s

theorem State.Carries.dropEarmarks (l : List Place) (s : State) : s.Carries (dropEarmarks l s) := by
  induction l generalizing s with
  | nil => exact .refl s
  | cons p rest ih => exact (State.Carries.dropEarmark s p.1 p.2).trans (ih _)

theorem State.Carries.settled (s : State) (t : SectorId) : s.Carries (s.settled t) := by
  unfold State.settled
  split
  · exact .of_same rfl rfl rfl
  · exact .refl s

theorem State.Carries.discardEntry (s : State) (c : CallClass) (e : Waiting) : s.Carries (s.discardEntry c e) := by
  refine State.Carries.trans ?_ (.removeWaiting _ c e.tag)
  rw [State.dropEarmarkOf]
  split
  · exact .dropEarmark s _ _
  · exact .refl s

theorem State.Carries.setSector (s : State) (t : SectorId) (r : Sector) : s.Carries (s.setSector t r) :=
  .of_same rfl rfl rfl

theorem State.Carries.resizeSlots (raised cut : Bool) (capacity : Nat) (t : SectorId) (l : List SlotId) (s : State) :
    s.Carries (resizeSlots raised cut capacity t l s) := by
  rw [resizeSlots_frame]
  exact .of_same rfl rfl rfl

theorem State.Carries.refit (s : State) (t : SectorId) (f : SectorSetFields) : s.Carries (s.refit t f) :=
  ((State.Carries.setSector s t _).trans (.resizeSlots _ _ _ _ _ _)).trans (.dropEarmarks _ _)

theorem State.Carries.draining (s : State) (t : SectorId) : s.Carries (s.draining t) :=
  (State.Carries.setSector s t _).trans (.dropEarmarks _ _)

theorem State.Carries.restart (s : State) : s.Carries s.restart := by
  constructor
  · rintro (_ | _ | _) <;> exact ⟨List.nil_sublist _, nofun⟩
  · rintro (_ | _ | _) _ _ <;> exact nofun

/-! ## Every work -/

/-- An entry with a new tag joins its list at the tail, behind entries that stood before (R44, R56). -/
structure State.Joins (s u : State) (f : AdmitFields) (c : CallClass) (pre : Bool) (l : List Waiting) : Prop where
  next : u = s.setWaiting c (l ++ [s.newEntry f c pre])
  before : l.Sublist (s.waiting c)
  whole : c = .emergency → l = s.emergency
  room : l.length < listPlaces c ∨ l.length < (s.waiting c).length
  nonzero : f.tag ≠ 0
  fresh : ¬s.Holds f.tag
  key : c = .emergency → f.key = 0 ∨ ∀ e ∈ s.emergency, e.key ≠ f.key

theorem State.Joins.of_list {f : AdmitFields} {c : CallClass} {pre : Bool} {l : List Waiting}
    (list : (s.waiting c = l ∧ l.length < listPlaces c) ∨ (c = .general ∧ ∃ o, s.general = o :: l))
    (nonzero : f.tag ≠ 0) (fresh : ¬s.Holds f.tag) (key : c = .emergency → f.key = 0 ∨ ∀ e ∈ s.emergency, e.key ≠ f.key) :
    s.Joins (s.setWaiting c (l ++ [s.newEntry f c pre])) f c pre l := by
  obtain ⟨same, room⟩ | ⟨rfl, o, displaced⟩ := list
  · exact ⟨rfl, same ▸ .refl _, fun urgent => by rw [← same, urgent]; rfl, .inl room, nonzero, fresh, key⟩
  · exact ⟨rfl, by simp [State.waiting, displaced], nofun, .inr (by simp [State.waiting, displaced]), nonzero, fresh, key⟩

theorem State.Work.carries_or_joins (work : s.Work u) : s.Carries u ∨ ∃ f c pre l, s.Joins u f c pre l := by
  cases work with
  | join list nonzero fresh key => exact .inr ⟨_, _, _, _, .of_list list nonzero fresh key⟩
  | touch c g touched =>
    refine .inl (.setWaiting s (.of_map fun x => (touched x).later) fun plain y hy => ?_)
    obtain ⟨x, hx, rfl⟩ := List.mem_map.mp hy
    exact (touched x).earmark.trans (plain x hx)
  | preempt | withdraw | unmark => exact .inl ((State.Carries.setSlot s _ _ _).trans (.setEarmark _ _ _))
  | unmarkEntry => exact .inl (.setEarmark s _ _)
  | grant => exact .inl ((State.Carries.setSlot s _ _ _).trans (.removeWaiting _ _ _))
  | empty => exact .inl (((State.Carries.clearBeneficiary s _).trans (.setSlot _ _ _ _)).trans (.settled _ _))
  | giveUp => exact .inl ((State.Carries.setSlot s _ _ _).trans (.clearBeneficiary _ _))
  | discard => exact .inl (.discardEntry s _ _)
  | refit => exact .inl (.refit s _ _)
  | drain => exact .inl ((State.Carries.draining s _).trans (.settled _ _))
  | disable => exact .inl ((State.Carries.setSector s _ _).trans (.resizeSlots _ _ _ _ _ _))
  | refusal =>
    rw [State.recordRefusal_frame]
    exact .inl (.of_same rfl rfl rfl)
  | offer r =>
    have kept := s.offerStatus_cases r
    refine .inl ?_
    obtain ⟨l, same, h⟩ | ⟨room, h⟩ | ⟨_, h⟩ := kept <;> rw [h] <;> exact .of_same rfl rfl rfl
  | openSurge => exact .inl (.of_same (by simp only [State.raised]) (by simp only [State.raised]) (by simp only [State.raised]))
  | restart => exact .inl (.restart s)
  | _ => exact .inl (.of_same rfl rfl rfl)

end Sys2Proof.Machine
end

section
/-! PROOFS. Every step keeps the bounds of queues, lanes, lists, tables and counters, and the lanes' laws (R28, R41, R62, R63, R135,
R157, R158, R164, R165, R173, R178 to R180, R182, R183). -/

namespace Sys2Proof.Machine

variable {s t u : State}

/-! ## The repeat-caller table (R135, R141, R142) -/

/-- A repeat-caller table that holds what the spec lets it hold. -/
structure RepeatBounded (l : List RepeatEntry) : Prop where
  length : l.length ≤ 128
  counts : ∀ r ∈ l, 1 ≤ r.count ∧ r.count ≤ 4 ∧ r.key ≠ 0
  keys : (l.map RepeatEntry.key).Nodup

theorem RepeatBounded.append {l m : List RepeatEntry} (bounded : RepeatBounded l) (kept : m.Sublist l) (room : m.length < 128)
    {r : RepeatEntry} (count : 1 ≤ r.count ∧ r.count ≤ 4 ∧ r.key ≠ 0) (fresh : ∀ x ∈ m, x.key ≠ r.key) :
    RepeatBounded (m ++ [r]) where
  length := by simpa using room
  counts x hx := by
    obtain old | new := List.mem_append.mp hx
    · exact bounded.counts x (kept.subset old)
    · exact List.mem_singleton.mp new ▸ count
  keys := by
    simp only [List.map_append, List.map_cons, List.map_nil, List.nodup_append, List.nodup_singleton, true_and,
      List.mem_singleton, List.mem_map]
    refine ⟨bounded.keys.sublist (kept.map _), ?_⟩
    rintro _ ⟨x, hx, rfl⟩ _ rfl
    exact fresh x hx

theorem RepeatBounded.recordRefusal (bounded : RepeatBounded s.repeatTable) (k : CallerKey) :
    RepeatBounded (s.recordRefusal k).repeatTable := by
  by_cases known : k = 0
  · rwa [known, State.recordRefusal_zero]
  cases entry : s.repeatEntry k with
  | some r =>
    obtain ⟨key, older, newer, table, absent⟩ := List.find?_eq_some_iff_append.mp entry
    obtain rfl : r.key = k := by simpa using key
    have others : ∀ x ∈ older, x.key ≠ r.key := fun x hx => by simpa using absent x hx
    have distinct := bounded.keys
    have full := bounded.length
    rw [State.recordRefusal_of_entry known table others rfl]
    rw [table] at distinct full
    refine bounded.append (table ▸ (List.sublist_cons_self r newer).append_left older) (by simp at full ⊢; omega)
      ⟨?_, ?_, known⟩ fun x hx => ?_
    · dsimp only
      split <;> omega
    · dsimp only
      split <;> omega
    · obtain old | new := List.mem_append.mp hx
      · exact others x old
      · have := (List.nodup_append.mp (List.map_append ▸ distinct)).2.1
        rw [List.map_cons, List.nodup_cons] at this
        exact fun same => this.1 (same ▸ List.mem_map_of_mem new)
  | none =>
    have absent : ∀ x ∈ s.repeatTable, x.key ≠ k := by simpa [State.repeatEntry] using entry
    have full := bounded.length
    rw [State.recordRefusal_of_absent known absent]
    dsimp only
    rw [joinRepeat_eq]
    split
    next room => exact bounded.append (.refl _) room ⟨le_refl 1, Nat.le_of_ble_eq_true rfl, known⟩ absent
    next =>
      exact bounded.append (List.tail_sublist _) (by rw [List.length_tail]; omega) ⟨le_refl 1, Nat.le_of_ble_eq_true rfl, known⟩
        fun x hx => absent x (List.mem_of_mem_tail hx)

/-! ## The bounds, block by block -/

/-- The waiting lists hold no more than their places, and no entry more than 255 merged attempts (R41, R63). -/
structure State.ListsBounded (s : State) : Prop where
  places : ∀ c, (s.waiting c).length ≤ listPlaces c
  merged : ∀ e ∈ s.emergency, e.merged ≤ 255

/-- The counters and tables outside the link port hold no more than the spec gives them (R28, R62, R135). -/
structure State.CountsBounded (s : State) : Prop where
  emergencyFull : s.emergencyFull ≤ 65535
  hits : ∀ i : ScreenIndex, (s.screenEntry i).hits ≤ 65535
  repeatTable : RepeatBounded s.repeatTable

theorem State.inBounds_iff (s : State) : s.InBounds ↔ s.link.Bounded ∧ s.ListsBounded ∧ s.CountsBounded := by
  constructor
  · intro h
    refine ⟨{ h with }, ⟨?_, h.merged⟩, h.emergencyFull, h.hits, h.repeatTable, h.repeatCounts, h.repeatKeys⟩
    rintro (_ | _ | _)
    exacts [h.emergency, h.priority, h.general]
  · rintro ⟨link, ⟨places, merged⟩, emergencyFull, hits, repeatTable⟩
    exact
      { link with
        emergency := places .emergency
        priority := places .priority
        general := places .general
        merged := merged
        emergencyFull := emergencyFull
        hits := hits
        repeatTable := repeatTable.length
        repeatCounts := repeatTable.counts
        repeatKeys := repeatTable.keys }

theorem State.Carries.listsBounded (carries : s.Carries u) (bounded : s.ListsBounded) : u.ListsBounded where
  places c := (carries.lists c).length.trans (bounded.places c)
  merged y hy := by
    obtain ⟨x, hx, later⟩ := (carries.lists .emergency).entries y hy
    exact later.merged (bounded.merged x hx)

theorem State.Joins.listsBounded {f : AdmitFields} {c : CallClass} {pre : Bool} {l : List Waiting} (joins : s.Joins u f c pre l)
    (bounded : s.ListsBounded) : u.ListsBounded := by
  obtain ⟨rfl, before, -, room, -, -, -⟩ := joins
  have full := bounded.places c
  constructor
  · intro d
    by_cases same : c = d
    · subst same
      rw [State.waiting_setWaiting, List.length_append, List.length_singleton]
      omega
    · rw [State.waiting_setWaiting_ne s same]
      exact bounded.places d
  · intro y hy
    cases c with
    | emergency =>
      obtain old | new := List.mem_append.mp hy
      · exact bounded.merged y (before.subset old)
      · rw [List.mem_singleton.mp new]
        exact Nat.zero_le _
    | priority => exact bounded.merged y hy
    | general => exact bounded.merged y hy

theorem State.CountsBounded.congr (bounded : s.CountsBounded) (emergencyFull : u.emergencyFull = s.emergencyFull)
    (screening : u.screening = s.screening) (repeatTable : u.repeatTable = s.repeatTable) : u.CountsBounded := by
  constructor <;> simp only [State.screenEntry, emergencyFull, screening, repeatTable]
  exacts [bounded.emergencyFull, bounded.hits, bounded.repeatTable]

theorem State.Fixed.countsBounded (fixed : s.Fixed u) (bounded : s.CountsBounded) : u.CountsBounded :=
  bounded.congr fixed.emergencyFull fixed.screening fixed.repeatTable

theorem State.CountsBounded.restart (bounded : s.CountsBounded) : s.restart.CountsBounded where
  emergencyFull := by
    rw [State.restart, State.restartScreening_frame]
    exact bounded.emergencyFull
  hits i := by
    have cleared : (s.restart.screenEntry i).hits = 0 := congrArg ScreenEntry.hits (Table.get_map _ _ i)
    rw [cleared]
    exact Nat.zero_le _
  repeatTable := ⟨Nat.zero_le _, nofun, .nil⟩

/-! ## Every work -/

theorem State.Work.keeps_countsBounded (bounded : s.CountsBounded) (work : s.Work u) : u.CountsBounded := by
  cases work with
  | emergencyFull => exact { bounded with emergencyFull := bump_le bounded.emergencyFull }
  | screen table hits => exact { bounded with hits := hits bounded.hits }
  | refusal k =>
    have recorded := bounded.repeatTable.recordRefusal k
    rw [State.recordRefusal_frame]
    exact { bounded with repeatTable := recorded }
  | restart => exact bounded.restart
  | offer r => exact (s.offerStatus_fixed r).countsBounded bounded
  | touch c g => exact (s.setWaiting_fixed c _).countsBounded bounded
  | grant => exact ((s.setSlot_fixed _ _ _).trans (State.setWaiting_fixed _ _ _)).countsBounded bounded
  | empty =>
    exact (((s.clearBeneficiary_fixed _).trans (State.setSlot_fixed _ _ _ _)).trans (State.settled_fixed _ _)).countsBounded
      bounded
  | giveUp => exact ((s.setSlot_fixed _ _ _).trans (State.clearBeneficiary_fixed _ _)).countsBounded bounded
  | join => exact (s.setWaiting_fixed _ _).countsBounded bounded
  | discard => exact (s.discardEntry_fixed _ _).countsBounded bounded
  | refit => exact (s.refit_fixed _ _).countsBounded bounded
  | drain => exact ((s.draining_fixed _).trans (State.settled_fixed _ _)).countsBounded bounded
  | disable => exact (s.disable_fixed _).countsBounded bounded
  | openSurge =>
    exact bounded.congr (by simp only [State.raised]) (by simp only [State.raised]) (by simp only [State.raised])
  | _ => exact bounded.congr rfl rfl rfl

theorem State.Work.keeps_inBounds (bounded : s.InBounds) (work : s.Work u) : u.InBounds := by
  obtain ⟨link, lists, counts⟩ := s.inBounds_iff.mp bounded
  refine u.inBounds_iff.mpr ⟨link.work work, ?_, work.keeps_countsBounded counts⟩
  obtain carries | ⟨f, c, pre, l, joins⟩ := work.carries_or_joins
  · exact carries.listsBounded lists
  · exact joins.listsBounded lists

/-! ## The other moves -/

theorem powerOn_inBounds : State.powerOn.InBounds := by
  refine (State.inBounds_iff _).mpr ⟨?_, ⟨?_, nofun⟩, Nat.zero_le _, fun i => ?_, Nat.zero_le _, nofun, .nil⟩
  · constructor
    case receiver => exact trivial
    all_goals exact Nat.zero_le _
  · rintro (_ | _ | _) <;> exact Nat.zero_le _
  · rw [State.screenEntry, State.powerOn, Table.get_replicate]
    exact Nat.zero_le _

/-- The clock of the frame in transmission is no law of the lanes. -/
theorem LinkPort.LanesLawful.tick {k : LinkPort} (lawful : k.LanesLawful) (gap : Nat) :
    ({ k with gapTicks := gap, sending := k.sending.map (fun d => { d with elapsed := d.elapsed + 1 }) } : LinkPort).LanesLawful := by
  obtain ⟨head, unsent⟩ := lawful
  refine ⟨fun d transmitted => ?_, ?_⟩
  · obtain ⟨e, before, rfl⟩ := Option.map_eq_some_iff.mp transmitted
    obtain ⟨f, heads, octets⟩ := head e before
    refine ⟨f, ?_, octets⟩
    revert heads
    cases e.source <;> exact id
  · unfold LinkPort.statusInTransmission at unsent ⊢
    cases sending : k.sending with
    | none => rwa [sending] at unsent
    | some d => rwa [sending] at unsent

/-! ## Every step -/

theorem step_keeps_inBounds (next : step s = .next t) (bounded : s.InBounds) : t.InBounds := by
  refine step_keeps (P := State.InBounds) (fun s _ _ bounded => { bounded with }) (fun s u => State.Work.keeps_inBounds)
    (fun s k bounded event => ?link) powerOn_inBounds (fun s b1 b0 t bounded ended => ?ended)
    (fun s bounded => { bounded with }) next bounded
  case link =>
    obtain ⟨link, lists, counts⟩ := s.inBounds_iff.mp bounded
    exact (State.inBounds_iff _).mpr ⟨link.event event, { lists with }, { counts with }⟩
  case ended =>
    obtain rfl := Host.Outcome.next.inj ended
    split
    · exact { bounded with receiver := trivial }
    · exact bounded

theorem step_keeps_lanesLawful (next : step s = .next t) (lawful : s.link.LanesLawful) : t.link.LanesLawful := by
  refine step_keeps (P := fun s => s.link.LanesLawful) (fun s _ _ lawful => lawful)
    (fun s u lawful work => LinkPort.LanesLawful.work lawful work) (fun s k lawful event => lawful.event event) ⟨nofun, .nil⟩
    (fun s b1 b0 t lawful ended => ?_) (fun s lawful => lawful.tick _) next lawful
  obtain rfl := Host.Outcome.next.inj ended
  split
  · exact lawful.congr rfl (fun src f head => by cases src <;> exact head) rfl
  · exact lawful

/-- Settles O55: bounds and lanes are kept by works, by the link port's own events and by every other move. -/
theorem stepKeepsTheBounds : Obligations.StepKeepsTheBounds := by
  intro s t next
  refine ⟨step_keeps_inBounds next, fun lawful => ?_⟩
  exact t.lanesLawful_iff.mpr (step_keeps_lanesLawful next (s.lanesLawful_iff.mp lawful))

end Sys2Proof.Machine
end

section
/-! PROOFS. Every step keeps the laws of slots and sector states (R4, R6, R17, R19, R99). -/

namespace Sys2Proof.Machine

variable {s u : State} {t : SectorId} {n : SlotId} {x : Slot} {r : Sector}

/-! ## The laws slot by slot -/

/-- The laws of one slot of a sector: without a call it is FREE exactly when usable (R6), a call needs an OPEN or DRAINING sector
(R4, R19), a beneficiary a slot below the capacity of an OPEN one (R99). -/
structure Slot.LawfulIn (x : Slot) (n : SlotId) (r : Sector) : Prop where
  free : x.call? = none → (x = .free ↔ n.val < r.capacity ∧ r.state ≠ .disabled)
  occupied : x.occupied = true → r.state = .opened ∨ r.state = .draining
  earmarked : x.earmarked = true → r.state = .opened ∧ n.val < r.capacity

/-- A sector has a call in some slot. -/
def State.Busy (s : State) (t : SectorId) : Prop := ∃ n, (s.slot t n).occupied = true

theorem State.busy_iff (s : State) (t : SectorId) : s.Busy t ↔ 0 < s.occupancy t := by
  refine ⟨fun ⟨n, full⟩ => Nat.pos_of_ne_zero fun none_occupied => ?_, fun some_occupied => ?_⟩
  · obtain ⟨c, call⟩ := (Slot.occupied_iff _).mp full
    simp [State.call?_of_occupancy_zero none_occupied] at call
  · obtain ⟨x, mem, full⟩ := List.countP_pos_iff.mp some_occupied
    obtain ⟨i, inside, rfl⟩ := List.getElem_of_mem mem
    exact ⟨⟨i, by simpa [(s.slots.get t).size_eq] using inside⟩, full⟩

/-- Every slot is lawful in its sector. -/
def State.SlotsStand (s : State) : Prop := ∀ t n, (s.slot t n).LawfulIn n (s.sector t)

theorem State.slotsLawful_iff (s : State) :
    s.SlotsLawful ↔ s.SlotsStand ∧ ∀ t, (s.sector t).state = .draining → s.Busy t := by
  constructor
  · intro lawful
    exact ⟨fun t n => ⟨lawful.free t n, lawful.opened_or_draining, lawful.earmarked t n⟩,
      fun t draining => (s.busy_iff t).mpr (lawful.draining t draining)⟩
  · rintro ⟨stand, busy⟩
    refine ⟨fun t n => (stand t n).free, fun t idle => Nat.eq_zero_of_not_pos fun calls => ?_,
      fun t draining => (s.busy_iff t).mp (busy t draining), fun t n => (stand t n).earmarked⟩
    obtain ⟨n, full⟩ := (s.busy_iff t).mpr calls
    rcases idle with h | h <;> simpa [h] using (stand t n).occupied full

theorem Slot.LawfulIn.of_record {r' : Sector} (lawful : x.LawfulIn n r) (state : r'.state = r.state)
    (capacity : r'.capacity = r.capacity) : x.LawfulIn n r' := by
  constructor <;> rw [state] <;> try rw [capacity]
  exacts [lawful.free, lawful.occupied, lawful.earmarked]

/-- A call in the slot, and a beneficiary only where one may stand. -/
theorem Slot.lawfulIn_of_occupied (full : x.occupied = true) (enabled : r.state = .opened ∨ r.state = .draining)
    (earmarked : x.earmarked = true → r.state = .opened ∧ n.val < r.capacity) : x.LawfulIn n r :=
  ⟨fun empty => by simp [Slot.occupied, empty] at full, fun _ => enabled, earmarked⟩

/-- Another slot record with the same call and no other beneficiary. -/
theorem Slot.LawfulIn.of_slot {y : Slot} (lawful : x.LawfulIn n r) (free : y = .free ↔ x = .free) (call : y.call? = x.call?)
    (earmarked : y.earmarked = true → x.earmarked = true) : y.LawfulIn n r where
  free empty := free.trans (lawful.free (call ▸ empty))
  occupied full := lawful.occupied (by rwa [Slot.occupied, ← call])
  earmarked h := lawful.earmarked (earmarked h)

theorem Slot.earmarked_of_free (x : Slot) (h : x.earmarked = true) : x.occupied = true := by
  cases x <;> first | rfl | cases h

theorem Slot.LawfulIn.withoutBeneficiary (lawful : x.LawfulIn n r) : x.withoutBeneficiary.LawfulIn n r :=
  lawful.of_slot (by cases x <;> simp [Slot.withoutBeneficiary]) (by cases x <;> rfl) (by cases x <;> simp [Slot.withoutBeneficiary, Slot.earmarked])

theorem Slot.LawfulIn.signal (lawful : x.LawfulIn n r) : x.signal.LawfulIn n r :=
  lawful.of_slot (by cases x <;> simp [Slot.signal]) (by cases x <;> rfl) (by cases x <;> exact id)

theorem Slot.LawfulIn.restarted (lawful : x.LawfulIn n r) : x.restarted.LawfulIn n r :=
  lawful.of_slot (by cases x <;> simp [Slot.restarted]) (by cases x <;> rfl) (by cases x <;> simp [Slot.restarted, Slot.earmarked])

/-! ## The laws over the state's operations -/

theorem State.SlotsLawful.congr (lawful : s.SlotsLawful) (slots : ∀ t n, u.slot t n = s.slot t n)
    (sectors : ∀ t, (u.sector t).state = (s.sector t).state ∧ (u.sector t).capacity = (s.sector t).capacity) :
    u.SlotsLawful := by
  obtain ⟨stand, busy⟩ := s.slotsLawful_iff.mp lawful
  refine u.slotsLawful_iff.mpr ⟨fun t n => ?_, fun t draining => ?_⟩
  · rw [slots]
    exact (stand t n).of_record (sectors t).1 (sectors t).2
  · obtain ⟨n, full⟩ := busy t ((sectors t).1 ▸ draining)
    exact ⟨n, slots t n ▸ full⟩

/-- The works that write neither slots nor sector records. -/
theorem State.SlotsLawful.of_same (lawful : s.SlotsLawful) (slots : u.slots = s.slots) (sectors : u.sectors = s.sectors) :
    u.SlotsLawful :=
  lawful.congr (State.slot_congr slots) fun t => by simp [State.sector_congr sectors t]

/-- A slot written with a call, where a call may stand. -/
theorem State.SlotsLawful.setSlot (lawful : s.SlotsLawful) (full : x.occupied = true)
    (enabled : (s.sector t).state = .opened ∨ (s.sector t).state = .draining)
    (earmarked : x.earmarked = true → (s.sector t).state = .opened ∧ n.val < (s.sector t).capacity) :
    (s.setSlot t n x).SlotsLawful := by
  obtain ⟨stand, busy⟩ := s.slotsLawful_iff.mp lawful
  refine (State.slotsLawful_iff _).mpr ⟨fun v m => ?_, fun v draining => ?_⟩
  · rw [State.slot_setSlot]
    split
    next here =>
      obtain ⟨rfl, rfl⟩ := here
      exact Slot.lawfulIn_of_occupied full enabled earmarked
    next => exact stand v m
  · obtain ⟨m, before⟩ := busy v draining
    refine ⟨m, ?_⟩
    rw [State.slot_setSlot]
    split
    · exact full
    · exact before

/-- The call of a slot is written anew, or its slot state, with no beneficiary but one that stood. -/
theorem State.SlotsLawful.rewriteSlot (lawful : s.SlotsLawful) (before : (s.slot t n).occupied = true) (full : x.occupied = true)
    (earmarked : x.earmarked = true → (s.slot t n).earmarked = true) : (s.setSlot t n x).SlotsLawful :=
  lawful.setSlot full (lawful.opened_or_draining before) fun h => lawful.earmarked t n (earmarked h)

/-- Slot records rewritten all over, each with its call and no new beneficiary. -/
theorem State.SlotsLawful.rewriteAll (lawful : s.SlotsLawful) (call : ∀ t n, (u.slot t n).call? = (s.slot t n).call?)
    (slots : ∀ t n, (u.slot t n).LawfulIn n (s.sector t))
    (sectors : ∀ t, (u.sector t).state = (s.sector t).state ∧ (u.sector t).capacity = (s.sector t).capacity) :
    u.SlotsLawful := by
  refine u.slotsLawful_iff.mpr ⟨fun t n => (slots t n).of_record (sectors t).1 (sectors t).2, fun t draining => ?_⟩
  obtain ⟨n, full⟩ := (s.slotsLawful_iff.mp lawful).2 t ((sectors t).1 ▸ draining)
  exact ⟨n, by rwa [Slot.occupied, call]⟩

/-- The draining test makes a DRAINING sector without calls DRAINED (R17). -/
theorem State.SlotsStand.settled (stand : s.SlotsStand) (busy : ∀ v, v ≠ t → (s.sector v).state = .draining → s.Busy v) :
    (s.settled t).SlotsLawful := by
  unfold State.settled
  split
  next done =>
    obtain ⟨draining, empty⟩ := done
    have idle : ∀ n, (s.slot t n).occupied = false := fun n => by
      rw [Slot.occupied, State.call?_of_occupancy_zero empty]
      rfl
    refine (State.slotsLawful_iff _).mpr ⟨fun v n => ?_, fun v still => ?_⟩
    · rw [State.sector_setSector]
      split
      next here =>
        subst here
        refine ⟨fun no_call => ?_, fun full => ?_, fun marked => ?_⟩
        · have := (stand t n).free no_call
          simpa [draining] using this
        · exact absurd full (by simp [idle])
        · exact absurd ((Slot.earmarked_of_free _) marked) (by simp [idle])
      next => exact stand v n
    · rw [State.sector_setSector] at still
      split at still
      next => cases still
      next elsewhere => exact busy v (Ne.symm elsewhere) still
  next unfinished =>
    refine (State.slotsLawful_iff _).mpr ⟨stand, fun v still => ?_⟩
    by_cases here : v = t
    · subst here
      exact (s.busy_iff v).mpr (Nat.pos_of_ne_zero fun empty => unfinished ⟨still, empty⟩)
    · exact busy v here still

/-! ## The works that write slots and sectors -/

/-- A slot loses its call (R8), and its sector may be DRAINED by it (R17). -/
theorem State.SlotsLawful.empty_settled (lawful : s.SlotsLawful) (b : Option Tag) :
    (((s.clearBeneficiary b).setSlot t n (s.releasedSlot t n)).settled t).SlotsLawful := by
  obtain ⟨stand, busy⟩ := s.slotsLawful_iff.mp lawful
  have released : (s.releasedSlot t n).LawfulIn n (s.sector t) := by
    unfold State.releasedSlot
    split
    next usable => exact ⟨fun _ => by simpa using usable, nofun, nofun⟩
    next unusable => exact ⟨fun _ => by simpa using unusable, nofun, nofun⟩
  refine State.SlotsStand.settled (fun v m => ?_) fun v elsewhere draining => ?_
  · rw [State.slot_setSlot, State.sector_setSlot, State.clearBeneficiary_sector, State.clearBeneficiary_slot]
    split
    next here =>
      obtain ⟨rfl, rfl⟩ := here
      exact released
    next => exact stand v m
  · rw [State.sector_setSlot, State.clearBeneficiary_sector] at draining
    obtain ⟨m, full⟩ := busy v draining
    refine ⟨m, ?_⟩
    rwa [State.slot_setSlot, if_neg fun h => elsewhere h.1.symm, State.clearBeneficiary_slot]

/-- An OPEN sector begins to drain: its slots lose their beneficiaries (R16). -/
theorem State.SlotsLawful.draining_settled (lawful : s.SlotsLawful) (opened : (s.sector t).state = .opened) :
    ((s.draining t).settled t).SlotsLawful := by
  obtain ⟨stand, busy⟩ := s.slotsLawful_iff.mp lawful
  have sector : ∀ v, v ≠ t → (s.draining t).sector v = s.sector v := fun v elsewhere => by
    rw [State.sector_congr (u := s.draining t) (s := s.setSector t _) (s.draining_sectors t), State.sector_setSector,
      if_neg elsewhere.symm]
  refine State.SlotsStand.settled (fun v m => ?_) fun v elsewhere still => ?_
  · rw [State.draining_slot]
    split
    next here =>
      subst here
      rw [State.draining_sector]
      refine ⟨fun no_call => ?_, fun _ => .inr rfl, fun marked => ?_⟩
      · simpa [opened] using (stand v m).withoutBeneficiary.free no_call
      · simp [Slot.earmarked_eq] at marked
    next elsewhere =>
      rw [sector v elsewhere]
      exact stand v m
  · rw [sector v elsewhere] at still
    obtain ⟨m, full⟩ := busy v still
    exact ⟨m, by rwa [State.draining_slot, if_neg elsewhere]⟩

theorem State.SlotsLawful.resume (lawful : s.SlotsLawful)
    (leaving : (s.sector t).state = .draining ∨ (s.sector t).state = .drained) :
    (s.setSector t { s.sector t with state := .opened }).SlotsLawful := by
  obtain ⟨stand, busy⟩ := s.slotsLawful_iff.mp lawful
  have enabled : (s.sector t).state ≠ .disabled := by rcases leaving with h | h <;> simp [h]
  have shut : (s.sector t).state ≠ .opened := by rcases leaving with h | h <;> simp [h]
  refine (State.slotsLawful_iff _).mpr ⟨fun v n => ?_, fun v still => ?_⟩
  · rw [State.sector_setSector]
    split
    next here =>
      subst here
      exact ⟨fun no_call => by simpa [enabled] using (stand t n).free no_call, fun _ => .inl rfl,
        fun marked => absurd ((stand t n).earmarked marked).1 shut⟩
    next => exact stand v n
  · rw [State.sector_setSector] at still
    split at still
    next => cases still
    next => exact busy v still

theorem State.SlotsLawful.disable (lawful : s.SlotsLawful) (idle : (s.sector t).state = .drained ∨ s.occupancy t = 0) :
    (s.disable t).SlotsLawful := by
  obtain ⟨stand, busy⟩ := s.slotsLawful_iff.mp lawful
  have empty : s.occupancy t = 0 := idle.elim (fun drained => lawful.empty t (.inr drained)) id
  have sector : ∀ v, v ≠ t → (s.disable t).sector v = s.sector v := fun v elsewhere => by
    rw [State.disable_frame, State.sector, Table.get_set, if_neg elsewhere.symm]
    rfl
  refine (State.slotsLawful_iff _).mpr ⟨fun v n => ?_, fun v still => ?_⟩
  · rw [State.disable_slot empty]
    split
    next here =>
      subst here
      rw [State.disable_sector]
      exact ⟨fun _ => by simp, nofun, nofun⟩
    next elsewhere =>
      rw [sector v elsewhere]
      exact stand v n
  · by_cases here : v = t
    · subst here
      rw [State.disable_sector] at still
      cases still
    · rw [sector v here] at still
      obtain ⟨n, full⟩ := busy v still
      exact ⟨n, by rwa [State.disable_slot empty, if_neg here]⟩

/-! ### SECTOR-SET (R11 to R14) -/

theorem State.cutOff_eq (lawful : s.SlotsLawful) (f : SectorSetFields) : s.cutOff t f = s.cutEarmarks t f.capacity.toNat := by
  unfold State.cutOff
  split
  · rfl
  next kept => rw [State.cutEarmarks_of_not_cut lawful (Nat.not_lt.mp kept)]

/-- Where the slots are lawful SECTOR-SET writes the slots that its refitting does. -/
theorem State.refit_slot (lawful : s.SlotsLawful) (f : SectorSetFields) (v : SectorId) (n : SlotId) :
    (s.refit t f).slot v n = (s.refitted t f).slot v n := by
  rw [State.refit, State.refitted, State.cutOff_eq lawful]
  simp only [dropEarmarks_slot, State.resized, resizeSlots_allSlots, State.rewritten_slot, State.slot_setSector]

theorem State.refit_sector (s : State) (t : SectorId) (f : SectorSetFields) (v : SectorId) :
    (s.refit t f).sector v = if t = v then (s.sector t).rewritten f s.governor.surge else s.sector v := by
  rw [State.sector_congr (u := s.refit t f) (s := s.setSector t _) (s.refit_sectors t f), State.sector_setSector]

theorem Sector.rewritten_capacity (r : Sector) (f : SectorSetFields) (w : Option Surge) :
    (r.rewritten f w).capacity = f.capacity.toNat := by
  unfold Sector.rewritten
  split <;> rfl

theorem Sector.rewritten_enabled (r : Sector) (f : SectorSetFields) (w : Option Surge) :
    (r.rewritten f w).state ≠ .disabled := by
  rw [Sector.rewritten_state]
  split
  · nofun
  next enabled => exact enabled

/-- A slot refitted to the new capacity is lawful in the rewritten sector (R13, R14). -/
theorem State.SlotsStand.refit (lawful : s.SlotsLawful) (f : SectorSetFields) : (s.refit t f).SlotsStand := by
  intro v n
  obtain ⟨stand, -⟩ := s.slotsLawful_iff.mp lawful
  rw [State.refit_slot lawful, State.refit_sector, State.refitted_slot lawful]
  by_cases here : t = v
  · subst here
    have slot := stand t n
    have capacity := (s.sector t).rewritten_capacity f s.governor.surge
    have enabled := (s.sector t).rewritten_enabled f s.governor.surge
    have kept : (s.sector t).state = .opened ∨ (s.sector t).state = .draining →
        ((s.sector t).rewritten f s.governor.surge).state = (s.sector t).state := by
      rintro (h | h) <;> rw [Sector.rewritten_state, h] <;> rfl
    have usable : (if n.val < f.capacity.toNat then Slot.free else .closed).LawfulIn n
        ((s.sector t).rewritten f s.governor.surge) := by
      split
      next below => exact ⟨fun _ => by simp [capacity, enabled, below], nofun, nofun⟩
      next above => exact ⟨fun _ => by simp [capacity, above], nofun, nofun⟩
    simp only [ne_eq, not_true_eq_false, if_false, if_true]
    cases x : s.slot t n with
    | closed | free => exact usable
    | active c | stuck c =>
      have still := slot.occupied (x ▸ rfl)
      exact Slot.lawfulIn_of_occupied rfl (kept still ▸ still) nofun
    | vacating c w =>
      have still := slot.occupied (x ▸ rfl)
      dsimp only
      split
      next below =>
        refine Slot.lawfulIn_of_occupied rfl (kept still ▸ still) fun marked => ?_
        have opened := (slot.earmarked (x ▸ marked)).1
        exact ⟨(kept still).trans opened, capacity ▸ below⟩
      next => exact Slot.lawfulIn_of_occupied rfl (kept still ▸ still) nofun
  · simp only [ne_eq, Ne.symm here, not_false_eq_true, if_true, here, if_false]
    exact stand v n

theorem State.refit_occupied (lawful : s.SlotsLawful) (f : SectorSetFields) (v : SectorId) (n : SlotId)
    (full : (s.slot v n).occupied = true) : ((s.refit t f).slot v n).occupied = true := by
  rw [State.refit_slot lawful, State.refitted_slot lawful]
  split
  next => exact full
  next here =>
    obtain rfl := not_not.mp here
    cases x : s.slot v n with
    | closed | free => rw [x] at full; cases full
    | active c | stuck c => rfl
    | vacating c w =>
      dsimp only
      split <;> rfl

theorem State.SlotsLawful.refit (lawful : s.SlotsLawful) (f : SectorSetFields) : (s.refit t f).SlotsLawful := by
  refine (State.slotsLawful_iff _).mpr ⟨.refit lawful f, fun v still => ?_⟩
  rw [State.refit_sector] at still
  have before : (s.sector v).state = .draining := by
    split at still
    next here =>
      subst here
      rw [Sector.rewritten_state] at still
      split at still
      · cases still
      · exact still
    next => exact still
  obtain ⟨n, full⟩ := (s.slotsLawful_iff.mp lawful).2 v before
  exact ⟨n, State.refit_occupied lawful f v n full⟩

/-! ## Every step -/

theorem State.raised_slots (s : State) (w : Surge) : (s.raised w).slots = s.slots := by
  simp only [State.raised]

theorem State.SlotsLawful.raised (lawful : s.SlotsLawful) (w : Surge) : (s.raised w).SlotsLawful := by
  refine lawful.congr (State.slot_congr (s.raised_slots w)) fun v => ?_
  rw [State.raised_sector, State.raisedRecord]
  split <;> exact ⟨rfl, rfl⟩

theorem State.restart_slot (s : State) (t : SectorId) (n : SlotId) : s.restart.slot t n = (s.slot t n).restarted := by
  rw [State.restart, State.restartScreening_frame, State.slot, State.slot]
  simp only [Table.get_map]

theorem State.restart_sector (s : State) (t : SectorId) : s.restart.sector t = (s.sector t).restarted := by
  rw [State.restart, State.restartScreening_frame]
  exact Table.get_map _ _ _

theorem State.signalSlots_slot (s : State) (t : SectorId) (n : SlotId) :
    ({ s with slots := s.slots.map (fun row => row.map Slot.signal) } : State).slot t n = (s.slot t n).signal := by
  simp only [State.slot, Table.get_map]

/-- An entry that leaves its list takes at most the beneficiary of a slot with it. -/
theorem State.discardEntry_slot (s : State) (c : CallClass) (e : Waiting) (t : SectorId) (n : SlotId) :
    (s.discardEntry c e).slot t n = s.slot t n ∨ (s.discardEntry c e).slot t n = (s.slot t n).withoutBeneficiary := by
  rw [State.discardEntry, State.removeWaiting, State.slot_congr (State.setWaiting_slots _ _ _), State.dropEarmarkOf]
  split
  next p _ =>
    rw [State.dropEarmark_slot]
    split
    · exact .inr rfl
    · exact .inl rfl
  next => exact .inl rfl

theorem State.Work.keeps_slotsLawful (lawful : s.SlotsLawful) (work : s.Work u) : u.SlotsLawful := by
  have slots := (s.slotsLawful_iff.mp lawful).1
  cases work with
  | signalSlots =>
    refine lawful.rewriteAll (fun t n => ?_) (fun t n => ?_) fun t => ⟨rfl, rfl⟩ <;> rw [State.signalSlots_slot]
    · cases s.slot t n <;> rfl
    · exact (slots t n).signal
  | restart =>
    refine lawful.rewriteAll (fun t n => ?_) (fun t n => ?_) fun t => ?_
    · rw [State.restart_slot]
      cases s.slot t n <;> rfl
    · rw [State.restart_slot]
      exact (slots t n).restarted
    · rw [State.restart_sector]
      exact ⟨rfl, rfl⟩
  | govern t r shape =>
    refine lawful.congr (fun _ _ => rfl) fun v => ?_
    rw [State.sector_setSector]
    split
    next here => exact here ▸ shape
    next => exact ⟨rfl, rfl⟩
  | preempt victim =>
    obtain ⟨-, below, opened, -⟩ := victim
    exact (lawful.setSlot (x := .vacating _ _) rfl (.inl opened) fun _ => ⟨opened, below⟩).of_same rfl rfl
  | @unmark t n c v b slot =>
    exact (lawful.rewriteSlot (x := .vacating c { v with beneficiary := none }) (by rw [slot]; rfl) rfl nofun).of_same rfl rfl
  | withdraw _ _ slot => exact (lawful.rewriteSlot (x := .active _) (by rw [slot]; rfl) rfl nofun).of_same rfl rfl
  | @grant e x t n _ _ place =>
    have granted : (s.setSlot t n (.active (s.callOf e))).SlotsLawful := by
      obtain ⟨-, opened, -⟩ | ⟨c, v, slot, -⟩ := place
      · exact lawful.setSlot rfl (.inl opened) nofun
      · exact lawful.rewriteSlot (by rw [slot]; rfl) rfl nofun
    exact granted.of_same (State.setWaiting_slots _ _ _) (State.setWaiting_sectors _ _ _)
  | empty => exact lawful.empty_settled _
  | giveUp slot =>
    exact (lawful.rewriteSlot (x := .stuck _) (by rw [slot]; rfl) rfl nofun).congr (State.clearBeneficiary_slot _ _) fun v => by
      rw [State.clearBeneficiary_sector]
      exact ⟨rfl, rfl⟩
  | order slot beneficiary =>
    exact lawful.rewriteSlot (x := .vacating _ _) (by rw [slot]; rfl) rfl (by rw [slot, Slot.earmarked, beneficiary]; exact id)
  | direct _ opened => exact lawful.setSlot (x := .active _) rfl (.inl opened) nofun
  | @discard c e _ =>
    refine lawful.rewriteAll (fun t n => ?_) (fun t n => ?_) fun t => by
      simp [State.sector_congr (s.discardEntry_sectors c e) t]
    all_goals obtain h | h := s.discardEntry_slot c e t n <;> rw [h]
    · cases s.slot t n <;> rfl
    · exact slots t n
    · exact (slots t n).withoutBeneficiary
  | refit => exact lawful.refit _
  | drain opened => exact lawful.draining_settled opened
  | resume leaving => exact lawful.resume leaving
  | disable idle => exact lawful.disable idle
  | openSurge => exact lawful.raised _
  | touch | join => exact lawful.of_same (State.setWaiting_slots _ _ _) (State.setWaiting_sectors _ _ _)
  | offer r => exact lawful.of_same (s.offerStatus_slots r) (s.offerStatus_sectors r)
  | refusal =>
    rw [State.recordRefusal_frame]
    exact lawful.of_same rfl rfl
  | _ => exact lawful.of_same rfl rfl

theorem powerOn_slotsLawful : State.powerOn.SlotsLawful := by
  refine (State.slotsLawful_iff _).mpr ⟨fun t n => ?_, fun t draining => ?_⟩ <;>
    simp only [State.sector, State.slot, State.powerOn, Table.get_replicate] at *
  · exact ⟨fun _ => by simp [Sector.powerOn], nofun, nofun⟩
  · cases draining

/-- Settles O57: works keep the laws, slot by slot, and no other move writes slots or sector records. -/
theorem stepKeepsTheSlots : Obligations.StepKeepsTheSlots := by
  intro s t lawful next
  refine step_keeps (P := State.SlotsLawful) (fun s _ _ lawful => lawful.of_same rfl rfl) (fun s u => State.Work.keeps_slotsLawful)
    (fun s _ lawful _ => lawful.of_same rfl rfl) powerOn_slotsLawful (fun s b1 b0 t lawful ended => ?_)
    (fun s lawful => lawful.of_same rfl rfl) next lawful
  obtain rfl := Host.Outcome.next.inj ended
  split
  · exact lawful.of_same rfl rfl
  · exact lawful

end Sys2Proof.Machine
end

section
/-! SUPPORT. The records of tags over works: tags held once (R39), entries of their own class (R41, R63), calls that stay (R7, R90). -/

namespace Sys2Proof.Machine

variable {s u : State}

/-! ## Tags held once -/

/-- The tags of the waiting entries and of the calls in slots are non-zero and held once (R39). -/
structure TagsOnce (tags : List Tag) (call : SectorId → SlotId → Option Call) : Prop where
  nodup : tags.Nodup
  nonzero : ∀ b ∈ tags, b ≠ 0
  slots : ∀ t n c, call t n = some c → c.tag ≠ 0 ∧ c.tag ∉ tags
  apart : ∀ t n c v m d, call t n = some c → call v m = some d → c.tag = d.tag → t = v ∧ n = m

variable {tags tags' : List Tag} {call call' : SectorId → SlotId → Option Call}

theorem TagsOnce.of_sublist (once : TagsOnce tags call) (fewer : tags'.Sublist tags)
    (before : ∀ t n c, call' t n = some c → call t n = some c) : TagsOnce tags' call' where
  nodup := once.nodup.sublist fewer
  nonzero b mem := once.nonzero b (fewer.subset mem)
  slots t n c h := (once.slots t n c (before t n c h)).imp_right fun fresh mem => fresh (fewer.subset mem)
  apart t n c v m d hc hd := once.apart t n c v m d (before t n c hc) (before v m d hd)

/-- A call comes to a slot, its tag held in no other record. -/
theorem TagsOnce.setSlot (once : TagsOnce tags call) {t : SectorId} {n : SlotId} {c : Call} (nonzero : c.tag ≠ 0)
    (fresh : c.tag ∉ tags) (elsewhere : ∀ v m d, call v m = some d → d.tag = c.tag → t = v ∧ n = m)
    (here : call' t n = some c) (others : ∀ v m, ¬(t = v ∧ n = m) → call' v m = call v m) : TagsOnce tags call' where
  nodup := once.nodup
  nonzero := once.nonzero
  slots v m d h := by
    by_cases at_slot : t = v ∧ n = m
    · obtain ⟨rfl, rfl⟩ := at_slot
      obtain rfl : c = d := Option.some.inj (here.symm.trans h)
      exact ⟨nonzero, fresh⟩
    · exact once.slots v m d (others v m at_slot ▸ h)
  apart v m d w k e hd he same := by
    by_cases at_first : t = v ∧ n = m
    · obtain ⟨rfl, rfl⟩ := at_first
      by_cases at_second : t = w ∧ n = k
      · exact at_second
      · obtain rfl : c = d := Option.some.inj (here.symm.trans hd)
        exact elsewhere w k e (others w k at_second ▸ he) same.symm
    · by_cases at_second : t = w ∧ n = k
      · obtain ⟨rfl, rfl⟩ := at_second
        obtain rfl : c = e := Option.some.inj (here.symm.trans he)
        exact (elsewhere v m d (others v m at_first ▸ hd) same).imp Eq.symm Eq.symm
      · exact once.apart v m d w k e (others v m at_first ▸ hd) (others w k at_second ▸ he) same

/-- An entry with a new tag joins a list. -/
theorem TagsOnce.cons (once : TagsOnce tags call) {b : Tag} (nonzero : b ≠ 0) (fresh : b ∉ tags)
    (unheld : ∀ t n c, call t n = some c → c.tag ≠ b) (joined : tags'.Perm (b :: tags)) : TagsOnce tags' call where
  nodup := joined.nodup_iff.mpr (List.nodup_cons.mpr ⟨fresh, once.nodup⟩)
  nonzero x mem := by
    obtain rfl | old := List.mem_cons.mp (joined.mem_iff.mp mem)
    · exact nonzero
    · exact once.nonzero x old
  slots t n c h := by
    refine ⟨(once.slots t n c h).1, fun mem => ?_⟩
    obtain same | old := List.mem_cons.mp (joined.mem_iff.mp mem)
    · exact unheld t n c h same
    · exact (once.slots t n c h).2 old
  apart := once.apart

/-- The calls in the slots. -/
def State.calls (s : State) (t : SectorId) (n : SlotId) : Option Call := (s.slot t n).call?

/-! ## Entries of their own class -/

/-- Each list holds entries of its own class, no emergency entry is preemptible, no other has an earmark, and no key but 0 stands
twice among the emergency entries (R41, R63, R89). -/
structure State.EntriesSound (s : State) : Prop where
  cls : ∀ c, ∀ e ∈ s.waiting c, e.cls = c
  firm : ∀ e ∈ s.emergency, e.preemptible = false
  plain : ∀ c, c ≠ .emergency → ∀ e ∈ s.waiting c, e.earmark = none
  keys : ∀ e ∈ s.emergency, ∀ f ∈ s.emergency, e.key = f.key → e.key ≠ 0 → e.tag = f.tag

theorem State.Carries.entriesSound (carries : s.Carries u) (sound : s.EntriesSound) : u.EntriesSound where
  cls c y hy := by
    obtain ⟨x, hx, later⟩ := (carries.lists c).entries y hy
    exact later.cls.trans (sound.cls c x hx)
  firm y hy := by
    obtain ⟨x, hx, later⟩ := (carries.lists .emergency).entries y hy
    exact later.preemptible.trans (sound.firm x hx)
  plain c lower := carries.plain c lower (sound.plain c lower)
  keys y hy z hz same known := by
    obtain ⟨x, hx, later⟩ := (carries.lists .emergency).entries y hy
    obtain ⟨w, hw, after⟩ := (carries.lists .emergency).entries z hz
    rw [later.tag, after.tag]
    rw [later.key, after.key] at same
    exact sound.keys x hx w hw same (later.key ▸ known)

theorem mem_append_singleton {α : Type} {l : List α} {x y : α} (mem : y ∈ l ++ [x]) : y ∈ l ∨ y = x :=
  (List.mem_append.mp mem).imp_right List.mem_singleton.mp

theorem State.Joins.entriesSound {f : AdmitFields} {c : CallClass} {pre : Bool} {l : List Waiting} (joins : s.Joins u f c pre l)
    (sound : s.EntriesSound) : u.EntriesSound := by
  obtain ⟨rfl, before, -, -, -, -, key⟩ := joins
  have others : ∀ d, c ≠ d → (s.setWaiting c (l ++ [s.newEntry f c pre])).waiting d = s.waiting d := fun d ne =>
    State.waiting_setWaiting_ne s ne _
  refine ⟨fun d y hy => ?_, fun y hy => ?_, fun d lower y hy => ?_, fun y hy z hz same known => ?_⟩
  · by_cases here : c = d
    · subst here
      rw [State.waiting_setWaiting] at hy
      obtain old | rfl := mem_append_singleton hy
      · exact sound.cls c y (before.subset old)
      · rfl
    · exact sound.cls d y (others d here ▸ hy)
  · cases c with
    | emergency =>
      obtain old | rfl := mem_append_singleton hy
      · exact sound.firm y (before.subset old)
      · rfl
    | priority => exact sound.firm y hy
    | general => exact sound.firm y hy
  · by_cases here : c = d
    · subst here
      rw [State.waiting_setWaiting] at hy
      obtain old | rfl := mem_append_singleton hy
      · exact sound.plain c lower y (before.subset old)
      · rfl
    · exact sound.plain d lower y (others d here ▸ hy)
  · cases c with
    | emergency =>
      have new : ∀ e ∈ l, e.key = f.key → e.key ≠ 0 → False := fun e he match_key known => by
        obtain unknown | absent := key rfl
        · exact known (match_key.trans unknown)
        · exact absent e (before.subset he) match_key
      obtain old | rfl := mem_append_singleton hy
      · obtain old' | rfl := mem_append_singleton hz
        · exact sound.keys y (before.subset old) z (before.subset old') same known
        · exact (new y old same known).elim
      · obtain old' | rfl := mem_append_singleton hz
        · exact (new z old' same.symm (same ▸ known)).elim
        · rfl
    | priority => exact sound.keys y hy z hz same known
    | general => exact sound.keys y hy z hz same known

/-! ## Calls that stay -/

/-- An emergency call is not preemptible and neither VACATING nor STUCK (R7, R90). -/
def Slot.Firm (x : Slot) : Prop := ∀ c, x.call? = some c → c.cls = .emergency → c.preemptible = false ∧ x = .active c

/-- A slot holds the call it held, or none, and an emergency call stays ACTIVE. -/
structure Slot.Follows (x y : Slot) : Prop where
  call : ∀ c, y.call? = some c → x.call? = some c
  active : ∀ c, x = .active c → c.cls = .emergency → y.call? = none ∨ y = .active c

theorem Slot.Follows.refl (x : Slot) : x.Follows x := ⟨fun _ => id, fun _ h _ => .inr h⟩

theorem Slot.Follows.firm {x y : Slot} (follows : x.Follows y) (firm : x.Firm) : y.Firm := by
  intro c held urgent
  obtain ⟨flag, active⟩ := firm c (follows.call c held) urgent
  obtain empty | still := follows.active c active urgent
  · rw [empty] at held
    cases held
  · exact ⟨flag, still⟩

theorem Slot.Follows.of_empty {x y : Slot} (empty : y.call? = none) : x.Follows y :=
  ⟨fun _ h => absurd (empty.symm.trans h) nofun, fun _ _ _ => .inl empty⟩

/-- The call of a VACATING slot may be written back in any slot state. -/
theorem Slot.Follows.of_vacating {x y : Slot} {c : Call} {v : Vacate} (before : x = .vacating c v) (call : y.call? = some c) :
    x.Follows y := by
  subst before
  exact ⟨fun d held => call.symm.trans held, nofun⟩

theorem Slot.Follows.withoutBeneficiary (x : Slot) : x.Follows x.withoutBeneficiary := by
  cases x with
  | vacating c v => exact .of_vacating rfl rfl
  | _ => exact .refl _

theorem Slot.Follows.trans {x y z : Slot} (a : x.Follows y) (b : y.Follows z) : x.Follows z := by
  refine ⟨fun c h => a.call c (b.call c h), fun c active urgent => ?_⟩
  obtain empty | still := a.active c active urgent
  · refine .inl (Option.eq_none_iff_forall_ne_some.mpr fun d held => ?_)
    rw [b.call d held] at empty
    cases empty
  · exact b.active c still urgent

/-- Every slot holds the call it held, or none. -/
def State.SlotsFollow (s u : State) : Prop := ∀ t n, (s.slot t n).Follows (u.slot t n)

theorem State.SlotsFollow.of_same (slots : u.slots = s.slots) : s.SlotsFollow u := fun t n =>
  State.slot_congr slots t n ▸ .refl _

theorem State.SlotsFollow.setSlot {t : SectorId} {n : SlotId} {y : Slot} (follows : (s.slot t n).Follows y) :
    s.SlotsFollow (s.setSlot t n y) := by
  intro v m
  rw [State.slot_setSlot]
  split
  next here =>
    obtain ⟨rfl, rfl⟩ := here
    exact follows
  next => exact .refl _

theorem resizedSlot_follows (raised cut : Bool) (capacity : Nat) (n : SlotId) (x : Slot) :
    x.Follows (resizedSlot raised cut capacity n x) := by
  cases call : x.call? with
  | some c => rw [resizedSlot_of_call call]; exact .refl x
  | none =>
    refine .of_empty ?_
    unfold resizedSlot
    split_ifs <;> first | rfl | exact call

theorem State.SlotsFollow.resizeSlots (raised cut : Bool) (capacity : Nat) (t : SectorId) (s : State) :
    s.SlotsFollow (resizeSlots raised cut capacity t allSlots s) := by
  intro v n
  rw [resizeSlots_allSlots]
  split
  · exact resizedSlot_follows _ _ _ _ _
  · exact .refl _

theorem State.SlotsFollow.dropEarmarks (l : List Place) (s : State) : s.SlotsFollow (dropEarmarks l s) := by
  intro v n
  rw [dropEarmarks_slot]
  split
  · exact .withoutBeneficiary _
  · exact .refl _

/-! ## Entries that leave -/

theorem mem_eraseP_tag {l : List Waiting} (nodup : (l.map Waiting.tag).Nodup) (b : Tag) (y : Waiting) :
    y ∈ l.eraseP (fun e => e.tag == b) ↔ y ∈ l ∧ y.tag ≠ b := by
  refine ⟨fun mem => ⟨List.mem_of_mem_eraseP mem, ?_⟩, fun ⟨mem, other⟩ =>
    (List.mem_eraseP_of_neg (by simpa using other)).mpr mem⟩
  rintro rfl
  obtain none_leaves | ⟨e, before, after, others, tag, split, left⟩ := List.exists_or_eq_self_of_eraseP (fun e => e.tag == y.tag) l
  · rw [none_leaves] at mem
    have := List.eraseP_eq_self_iff.mp none_leaves y mem
    simp at this
  · rw [split, List.map_append, List.map_cons, List.nodup_middle, List.nodup_cons] at nodup
    rw [left] at mem
    apply nodup.1
    rw [eq_of_beq tag, ← List.map_append]
    exact List.mem_map_of_mem mem

theorem State.mem_waitingTags {b : Tag} : b ∈ s.waitingTags ↔ ∃ c, ∃ e ∈ s.waiting c, e.tag = b := by
  rw [State.waitingTags, List.mem_map]
  constructor
  · rintro ⟨e, mem, tag⟩
    obtain ⟨c, waits⟩ := State.mem_allWaiting.mp mem
    exact ⟨c, e, waits, tag⟩
  · rintro ⟨c, e, waits, tag⟩
    exact ⟨e, State.mem_allWaiting.mpr ⟨c, waits⟩, tag⟩

/-- Waiting entries with the same tag are one entry, in one list (R39). -/
theorem State.EntriesSound.unique (sound : s.EntriesSound) (nodup : s.waitingTags.Nodup) {c d : CallClass} {x y : Waiting}
    (hx : x ∈ s.waiting c) (hy : y ∈ s.waiting d) (same : x.tag = y.tag) : x = y ∧ c = d := by
  have one : x = y :=
    List.inj_on_of_nodup_map nodup (State.mem_allWaiting.mpr ⟨c, hx⟩) (State.mem_allWaiting.mpr ⟨d, hy⟩) same
  exact ⟨one, (sound.cls c x hx).symm.trans ((congrArg Waiting.cls one).trans (sound.cls d y hy))⟩

theorem State.waiting_nodup (nodup : s.waitingTags.Nodup) (c : CallClass) : ((s.waiting c).map Waiting.tag).Nodup := by
  refine nodup.sublist (List.Sublist.map _ ?_)
  cases c
  · exact (List.sublist_append_left _ _).trans (List.sublist_append_left _ _)
  · exact (List.sublist_append_right _ _).trans (List.sublist_append_left _ _)
  · exact List.sublist_append_right _ _

/-- Once the entry with a tag has left its list no list holds the tag. -/
theorem State.EntriesSound.not_mem_removeWaiting (sound : s.EntriesSound) (nodup : s.waitingTags.Nodup) {c : CallClass}
    {x : Waiting} (mem : x ∈ s.waiting c) : x.tag ∉ (s.removeWaiting c x.tag).waitingTags := by
  intro held
  obtain ⟨d, y, left, same⟩ := State.mem_waitingTags.mp held
  by_cases here : c = d
  · subst here
    rw [State.removeWaiting, State.waiting_setWaiting, mem_eraseP_tag (State.waiting_nodup nodup c)] at left
    exact left.2 same
  · rw [State.removeWaiting, State.waiting_setWaiting_ne s here] at left
    exact here (sound.unique nodup mem left same.symm).2

/-- A slot is given a call with a tag that no other record holds (R39, R58, R70, R99). -/
structure State.Gives (s u : State) (t : SectorId) (n : SlotId) (c : Call) : Prop where
  slots : ∀ v m, u.slot v m = if t = v ∧ n = m then .active c else s.slot v m
  flag : c.cls = .emergency → c.preemptible = false
  nonzero : c.tag ≠ 0
  fresh : c.tag ∉ u.waitingTags
  elsewhere : ∀ v m d, (s.slot v m).call? = some d → d.tag ≠ c.tag

end Sys2Proof.Machine
end

section
/-! PROOFS. Every step keeps tags held once and earmarks paired (R39, R41, R63, R88, R90). -/

namespace Sys2Proof.Machine

variable {s u : State}

/-! ## Earmarks paired from both sides (R88) -/

/-- Entries name the slots that name them, and only entries are named. -/
structure Paired (l : List Waiting) (owner : Place → Option Tag) : Prop where
  earmarks : ∀ e ∈ l, ∀ p, e.earmark = some p ↔ owner p = some e.tag
  owners : ∀ p b, owner p = some b → ∃ e ∈ l, e.tag = b

/-- The beneficiaries of the slots. -/
def State.owner (s : State) (p : Place) : Option Tag := (s.slot p.1 p.2).beneficiary?

/-- The emergency entries and the slots are paired from both sides. -/
def State.Pairs (s : State) : Prop := Paired s.emergency s.owner

variable {l l' : List Waiting} {owner owner' : Place → Option Tag}

theorem Paired.place_unique (paired : Paired l owner) {p q : Place} {b : Tag} (hp : owner p = some b) (hq : owner q = some b) :
    p = q := by
  obtain ⟨e, mem, rfl⟩ := paired.owners p b hp
  exact Option.some.inj (((paired.earmarks e mem p).mpr hp).symm.trans ((paired.earmarks e mem q).mpr hq))

/-- Entries rewritten but for tag and earmark. -/
theorem Paired.map (paired : Paired l owner) {g : Waiting → Waiting} (same : ∀ x, (g x).tag = x.tag ∧ (g x).earmark = x.earmark) :
    Paired (l.map g) owner where
  earmarks y hy p := by
    obtain ⟨x, hx, rfl⟩ := List.mem_map.mp hy
    rw [(same x).1, (same x).2]
    exact paired.earmarks x hx p
  owners p b h := by
    obtain ⟨e, mem, tag⟩ := paired.owners p b h
    exact ⟨g e, List.mem_map_of_mem mem, (same e).1.trans tag⟩

/-- The earmark of a tag is cleared on both sides. -/
theorem Paired.clear (paired : Paired l owner) (b : Tag)
    (cleared : ∀ p, owner' p = if owner p = some b then none else owner p) :
    Paired (l.map (fun e => if e.tag = b then { e with earmark := none } else e)) owner' where
  earmarks y hy p := by
    obtain ⟨x, hx, rfl⟩ := List.mem_map.mp hy
    rw [cleared]
    by_cases tag : x.tag = b
    · rw [if_pos tag]
      subst tag
      by_cases named : owner p = some x.tag <;> simp [named]
    · rw [if_neg tag, paired.earmarks x hx p]
      by_cases named : owner p = some b
      · simp [named, Ne.symm tag]
      · simp [named]
  owners p c h := by
    rw [cleared] at h
    split at h
    next => cases h
    next =>
      obtain ⟨e, mem, tag⟩ := paired.owners p c h
      refine ⟨_, List.mem_map_of_mem mem, ?_⟩
      split <;> exact tag

/-- The entry of a tag leaves with the earmark that it may have. -/
theorem Paired.retire (paired : Paired l owner) (b : Tag) (left : ∀ e, e ∈ l' ↔ e ∈ l ∧ e.tag ≠ b)
    (cleared : ∀ p, owner' p = if owner p = some b then none else owner p) : Paired l' owner' where
  earmarks e he p := by
    obtain ⟨mem, other⟩ := (left e).mp he
    rw [cleared, paired.earmarks e mem p]
    by_cases named : owner p = some b
    · simp [named, Ne.symm other]
    · simp [named]
  owners p c h := by
    rw [cleared] at h
    split at h
    next => cases h
    next unnamed =>
      obtain ⟨e, mem, tag⟩ := paired.owners p c h
      refine ⟨e, (left e).mpr ⟨mem, fun same => unnamed ?_⟩, tag⟩
      rw [h, ← tag, same]

theorem State.Pairs.congr (pairs : s.Pairs) (emergency : u.emergency = s.emergency) (owner : ∀ p, u.owner p = s.owner p) :
    u.Pairs := by
  have same : u.owner = s.owner := funext owner
  rw [State.Pairs, emergency, same]
  exact pairs

theorem State.Pairs.of_same (pairs : s.Pairs) (emergency : u.emergency = s.emergency) (slots : u.slots = s.slots) : u.Pairs :=
  pairs.congr emergency fun p => congrArg Slot.beneficiary? (State.slot_congr slots p.1 p.2)

theorem State.owner_setSlot (s : State) (t : SectorId) (n : SlotId) (x : Slot) (p : Place) :
    (s.setSlot t n x).owner p = if (t, n) = p then x.beneficiary? else s.owner p := by
  obtain ⟨v, m⟩ := p
  rw [State.owner, State.slot_setSlot]
  by_cases here : t = v ∧ n = m
  · rw [if_pos here, if_pos (by simp [here])]
  · rw [if_neg here, if_neg (by simpa using here)]
    rfl

/-- A slot record with no beneficiary, and with what stood in the slot cleared: the only place that named its tag. -/
theorem State.Pairs.owner_setSlot (pairs : s.Pairs) {t : SectorId} {n : SlotId} {x : Slot} {b : Tag}
    (before : s.owner (t, n) = some b) (plain : x.beneficiary? = none) (p : Place) :
    (s.setSlot t n x).owner p = if s.owner p = some b then none else s.owner p := by
  rw [State.owner_setSlot]
  by_cases here : (t, n) = p
  · rw [if_pos here, plain, if_pos (here ▸ before)]
  · rw [if_neg here, if_neg fun named => here (pairs.place_unique before named)]

/-- A slot record with no beneficiary where none stood. -/
theorem State.owner_setSlot_plain {t : SectorId} {n : SlotId} {x : Slot} (before : s.owner (t, n) = none)
    (plain : x.beneficiary? = none) (p : Place) : (s.setSlot t n x).owner p = s.owner p := by
  rw [State.owner_setSlot]
  split
  next here => rw [plain, ← here, before]
  next => rfl

/-- A slot loses its beneficiary with the entry's side of the earmark. -/
theorem State.Pairs.setSlot_clear (pairs : s.Pairs) {t : SectorId} {n : SlotId} {x : Slot} (plain : x.beneficiary? = none) :
    ((s.setSlot t n x).clearBeneficiary (s.slot t n).beneficiary?).Pairs := by
  cases before : (s.slot t n).beneficiary? with
  | none => exact pairs.congr rfl (State.owner_setSlot_plain before plain)
  | some b => exact pairs.clear b (pairs.owner_setSlot before plain)

theorem State.clearBeneficiary_setSlot (s : State) (t : SectorId) (n : SlotId) (x : Slot) (b : Option Tag) :
    (s.clearBeneficiary b).setSlot t n x = (s.setSlot t n x).clearBeneficiary b := by
  cases b <;> rfl

theorem State.Pairs.dropEarmark (pairs : s.Pairs) (t : SectorId) (n : SlotId) : (s.dropEarmark t n).Pairs := by
  obtain ⟨c, v, b, slot, beneficiary, h⟩ | ⟨_, h⟩ := s.dropEarmark_cases t n <;> rw [h]
  · have named : (s.slot t n).beneficiary? = some b := by rw [slot]; exact beneficiary
    have cleared := pairs.setSlot_clear (t := t) (n := n) (x := .vacating c { v with beneficiary := none }) rfl
    rwa [named] at cleared
  · exact pairs

theorem State.Pairs.dropEarmarks (l : List Place) {s : State} (pairs : s.Pairs) : (dropEarmarks l s).Pairs := by
  induction l generalizing s with
  | nil => exact pairs
  | cons p rest ih => exact ih (pairs.dropEarmark p.1 p.2)

theorem State.Pairs.settled (pairs : s.Pairs) (t : SectorId) : (s.settled t).Pairs := by
  unfold State.settled
  split
  · exact pairs.of_same rfl rfl
  · exact pairs

theorem State.Pairs.resizeSlots (pairs : s.Pairs) (raised cut : Bool) (capacity : Nat) (t : SectorId) :
    (resizeSlots raised cut capacity t allSlots s).Pairs := by
  refine pairs.congr (by rw [resizeSlots_frame]) fun p => ?_
  rw [State.owner, resizeSlots_allSlots]
  split
  · exact resizedSlot_beneficiary? _ _ _ _ _
  · rfl

theorem State.Pairs.refit (pairs : s.Pairs) (t : SectorId) (f : SectorSetFields) : (s.refit t f).Pairs := by
  rw [State.refit]
  refine State.Pairs.dropEarmarks _ (State.Pairs.resizeSlots ?_ _ _ _ _)
  exact pairs.of_same rfl rfl

theorem State.Pairs.draining (pairs : s.Pairs) (t : SectorId) : (s.draining t).Pairs := by
  rw [State.draining]
  refine State.Pairs.dropEarmarks _ ?_
  exact pairs.of_same rfl rfl

theorem State.Pairs.disable (pairs : s.Pairs) (t : SectorId) : (s.disable t).Pairs := by
  rw [State.disable]
  refine State.Pairs.resizeSlots ?_ _ _ _ _
  exact pairs.of_same rfl rfl

/-! ## The works that grant, discard and preempt -/

/-- The held records are lawful: the parts that the proofs treat one by one. -/
structure State.RecordsSound (s : State) : Prop where
  once : TagsOnce s.waitingTags s.calls
  entries : s.EntriesSound
  firm : ∀ t n, (s.slot t n).Firm
  pairs : s.Pairs

theorem State.recordsPaired_iff (s : State) : s.RecordsPaired ↔ s.RecordsSound := by
  constructor
  · intro h
    refine ⟨⟨h.waitingTags, fun b mem => ?_, h.slotTagNonzero, h.slotTags⟩, ⟨?_, fun e he => (h.emergencyClass e he).2, ?_, h.keys⟩,
      h.emergencyCalls, h.earmarks, fun p b => h.beneficiaries p.1 p.2 b⟩
    · obtain ⟨e, he, rfl⟩ := List.mem_map.mp mem
      exact h.waitingTagNonzero e he
    · rintro (_ | _ | _) e he
      exacts [(h.emergencyClass e he).1, (h.priorityClass e he).1, (h.generalClass e he).1]
    · rintro (_ | _ | _) lower e he
      exacts [absurd rfl lower, (h.priorityClass e he).2, (h.generalClass e he).2]
  · rintro ⟨once, entries, firm, pairs⟩
    exact
      { waitingTags := once.nodup
        waitingTagNonzero := fun e he => once.nonzero _ (List.mem_map_of_mem he)
        slotTagNonzero := once.slots
        slotTags := once.apart
        emergencyClass := fun e he => ⟨entries.cls .emergency e he, entries.firm e he⟩
        priorityClass := fun e he => ⟨entries.cls .priority e he, entries.plain .priority nofun e he⟩
        generalClass := fun e he => ⟨entries.cls .general e he, entries.plain .general nofun e he⟩
        keys := entries.keys
        earmarks := pairs.earmarks
        beneficiaries := fun t n b h => pairs.owners (t, n) b h
        emergencyCalls := firm }

section
variable (sound : s.RecordsSound)
include sound

/-- A slot that names a waiting entry's tag names an emergency entry, and the place of its earmark. -/
theorem State.RecordsSound.named {x : Waiting} (mem : x ∈ s.allWaiting) {p : Place} (named : s.owner p = some x.tag) :
    x ∈ s.emergency ∧ x.earmark = some p := by
  obtain ⟨c, waits⟩ := State.mem_allWaiting.mp mem
  obtain ⟨y, hy, same⟩ := sound.pairs.owners p x.tag named
  obtain ⟨rfl, -⟩ := sound.entries.unique sound.once.nodup (c := .emergency) hy waits same
  exact ⟨hy, (sound.pairs.earmarks y hy p).mpr named⟩

/-- The entry with a tag leaves its list, its own earmark cleared or not, once no slot names the tag. -/
theorem State.RecordsSound.removeWaiting {v : State} {x : Waiting} {c : CallClass} (mem : x ∈ s.waiting c)
    (tags : v.emergency.map Waiting.tag = s.emergency.map Waiting.tag)
    (others : ∀ y, y.tag ≠ x.tag → (y ∈ v.emergency ↔ y ∈ s.emergency))
    (cleared : ∀ p, v.owner p = if s.owner p = some x.tag then none else s.owner p) :
    (v.removeWaiting c x.tag).Pairs := by
  have owner : (v.removeWaiting c x.tag).owner = v.owner :=
    funext fun p => congrArg Slot.beneficiary? (State.slot_congr (State.setWaiting_slots _ _ _) p.1 p.2)
  have left : ∀ y, y ∈ (v.removeWaiting c x.tag).emergency ↔ y ∈ v.emergency ∧ y.tag ≠ x.tag := by
    intro y
    by_cases urgent : c = .emergency
    · subst urgent
      exact mem_eraseP_tag (tags ▸ State.waiting_nodup sound.once.nodup .emergency) x.tag y
    · have stays : (v.removeWaiting c x.tag).emergency = v.emergency := State.waiting_setWaiting_ne v urgent _
      rw [stays]
      refine ⟨fun hy => ⟨hy, fun same => urgent ?_⟩, And.left⟩
      obtain ⟨z, hz, tag⟩ := List.mem_map.mp (tags ▸ List.mem_map_of_mem (f := Waiting.tag) hy)
      exact (sound.entries.unique sound.once.nodup (c := .emergency) hz mem (tag.trans same)).2.symm
  rw [State.Pairs, owner]
  refine sound.pairs.retire x.tag (fun y => (left y).trans ?_) cleared
  exact and_congr_left fun other => others y other

theorem State.RecordsSound.grant_pairs {e x : Waiting} {t : SectorId} {n : SlotId} (mem : x ∈ s.allWaiting)
    (same : x.tag = e.tag ∧ x.cls = e.cls)
    (place : (s.slot t n = .free ∧ (s.sector t).state = .opened ∧ (x ∈ s.emergency → x.earmark = none)) ∨
      ∃ c v, s.slot t n = .vacating c v ∧ v.beneficiary = some e.tag) :
    ((s.setSlot t n (.active (s.callOf e))).removeWaiting e.cls e.tag).Pairs := by
  obtain ⟨c, waits⟩ := State.mem_allWaiting.mp mem
  obtain rfl : x.cls = c := sound.entries.cls c x waits
  rw [← same.1, ← same.2]
  refine sound.removeWaiting waits rfl (fun _ _ => .rfl) fun p => ?_
  obtain ⟨free, -, plain⟩ | ⟨c, v, slot, named⟩ := place
  · have unnamed : s.owner p ≠ some x.tag := fun named => by
      obtain ⟨urgent, mark⟩ := sound.named mem named
      rw [plain urgent] at mark
      cases mark
    rw [if_neg unnamed]
    exact State.owner_setSlot_plain (by rw [State.owner, free]; rfl) rfl p
  · exact sound.pairs.owner_setSlot (by rw [State.owner, slot, same.1]; exact named) rfl p

theorem State.RecordsSound.discard_pairs {c : CallClass} {e : Waiting} (mem : e ∈ s.waiting c) : (s.discardEntry c e).Pairs := by
  have all := State.mem_allWaiting.mpr ⟨c, mem⟩
  rw [State.discardEntry]
  cases mark : e.earmark with
  | none =>
    have unnamed : ∀ p, s.owner p ≠ some e.tag := fun p named => by
      rw [(sound.named all named).2] at mark
      cases mark
    simp only [State.dropEarmarkOf, mark]
    exact sound.removeWaiting mem rfl (fun _ _ => .rfl) fun p => (if_neg (unnamed p)).symm
  | some p =>
    have urgent : c = .emergency := by
      by_contra lower
      rw [sound.entries.plain c lower e mem] at mark
      cases mark
    subst urgent
    have named : s.owner p = some e.tag := (sound.pairs.earmarks e mem p).mp mark
    obtain ⟨k, v, b, slot, beneficiary, h⟩ | ⟨empty, -⟩ := s.dropEarmark_cases p.1 p.2
    · obtain rfl : b = e.tag := by
        rw [State.owner, slot] at named
        exact Option.some.inj (beneficiary.symm.trans named)
      simp only [State.dropEarmarkOf, mark, h]
      refine sound.removeWaiting mem ?_ (fun y other => ?_) (sound.pairs.owner_setSlot named rfl)
      · simp only [State.setEarmark_emergency, State.setSlot_emergency, List.map_map]
        refine List.map_congr_left fun y _ => ?_
        simp only [Function.comp_apply]
        split <;> rfl
      · simp only [State.setEarmark_emergency, State.setSlot_emergency, List.mem_map]
        constructor
        · rintro ⟨y, hy, rfl⟩
          split at other
          next same => exact absurd same other
          next different => rwa [if_neg different]
        · exact fun hy => ⟨y, hy, if_neg other⟩
    · rw [State.owner, empty] at named
      cases named

theorem State.RecordsSound.preempt_pairs {e : Waiting} {t : SectorId} {n : SlotId} {c : Call}
    (slot : s.slot t n = .active c) (plain : e.earmark = none) (mem : e ∈ s.emergency) :
    ((s.setSlot t n (.vacating c (s.firstOrder e))).setEarmark e.tag (some (t, n))).Pairs := by
  have unnamed : ∀ p, s.owner p ≠ some e.tag := fun p named => by
    rw [(sound.pairs.earmarks e mem p).mpr named] at plain
    cases plain
  have owner : ∀ p, ((s.setSlot t n (.vacating c (s.firstOrder e))).setEarmark e.tag (some (t, n))).owner p =
      if (t, n) = p then some e.tag else s.owner p := s.owner_setSlot t n _
  have empty : s.owner (t, n) = none := by rw [State.owner, slot]; rfl
  constructor
  · intro y hy p
    obtain ⟨x, hx, rfl⟩ := List.mem_map.mp hy
    rw [owner]
    by_cases tag : x.tag = e.tag
    · rw [if_pos tag]
      simp only [Option.some.injEq, tag]
      by_cases here : (t, n) = p <;> simp [here, unnamed]
    · rw [if_neg tag, sound.pairs.earmarks x hx p]
      by_cases here : (t, n) = p
      · subst here
        simp [empty, Ne.symm tag]
      · simp [here]
  · intro p b named
    rw [owner] at named
    have before : ∃ x ∈ s.emergency, x.tag = b := by
      split at named
      · exact ⟨e, mem, Option.some.inj named⟩
      · exact sound.pairs.owners p b named
    obtain ⟨x, hx, tag⟩ := before
    refine ⟨_, List.mem_map_of_mem hx, ?_⟩
    split <;> exact tag

/-- An entry that has no earmark joins its list with a tag that is not held. -/
theorem State.RecordsSound.join_pairs {f : AdmitFields} {c : CallClass} {pre : Bool} {l : List Waiting}
    (joins : s.Joins u f c pre l) : u.Pairs := by
  obtain ⟨rfl, -, whole, -, -, fresh, -⟩ := joins
  have owner : (s.setWaiting c (l ++ [s.newEntry f c pre])).owner = s.owner := funext fun p =>
    congrArg Slot.beneficiary? (State.slot_congr (State.setWaiting_slots _ _ _) p.1 p.2)
  by_cases urgent : c = .emergency
  · subst urgent
    obtain rfl := whole rfl
    rw [State.Pairs, owner, State.setWaiting_emergency_waiting]
    refine ⟨fun y hy p => ?_, fun p b named => ?_⟩
    · obtain old | rfl := mem_append_singleton hy
      · exact sound.pairs.earmarks y old p
      · refine iff_of_false nofun fun named => fresh (.inl ?_)
        obtain ⟨x, hx, tag⟩ := sound.pairs.owners p _ named
        exact ⟨x, List.mem_append_left _ (List.mem_append_left _ hx), tag⟩
    · obtain ⟨x, hx, tag⟩ := sound.pairs.owners p b named
      exact ⟨x, List.mem_append_left _ hx, tag⟩
  · exact sound.pairs.congr (State.waiting_setWaiting_ne s urgent _) (congrFun owner)

/-! ## Every work -/

theorem State.Work.pairs (work : s.Work u) : u.Pairs := by
  have same : ∀ {v : State}, v.emergency = s.emergency → v.slots = s.slots → v.Pairs := sound.pairs.of_same
  cases work with
  | @touch c g touched =>
    have slots := State.setWaiting_slots s c ((s.waiting c).map g)
    by_cases urgent : c = .emergency
    · subst urgent
      exact sound.pairs.map fun x => ⟨(touched x).tag, (touched x).earmark⟩
    · exact same (State.waiting_setWaiting_ne s urgent _) slots
  | signalSlots =>
    refine sound.pairs.congr rfl fun p => ?_
    rw [State.owner, State.signalSlots_slot, State.owner]
    cases s.slot p.1 p.2 <;> rfl
  | preempt victim plain mem => exact sound.preempt_pairs victim.1 plain (mem (State.waiting_nodup sound.once.nodup .emergency))
  | @unmark t n c v b slot beneficiary =>
    have cleared := sound.pairs.setSlot_clear (t := t) (n := n) (x := .vacating c { v with beneficiary := none }) rfl
    rwa [slot, Slot.beneficiary?, beneficiary] at cleared
  | @withdraw e t n c v mem mark slot =>
    have cleared := sound.pairs.setSlot_clear (t := t) (n := n) (x := .active c) rfl
    obtain ⟨d, waits⟩ := State.mem_allWaiting.mp mem
    have urgent : d = .emergency := by
      by_contra lower
      rw [sound.entries.plain d lower e waits] at mark
      cases mark
    subst urgent
    rwa [show (s.slot t n).beneficiary? = some e.tag from (sound.pairs.earmarks e waits (t, n)).mp mark] at cleared
  | @unmarkEntry e t n mem mark slot =>
    obtain ⟨d, waits⟩ := State.mem_allWaiting.mp mem
    have urgent : d = .emergency := by
      by_contra lower
      rw [sound.entries.plain d lower e waits] at mark
      cases mark
    subst urgent
    have named := (sound.pairs.earmarks e waits (t, n)).mp mark
    rw [State.owner] at named
    cases before : s.slot t n with
    | vacating c v => exact absurd before (slot c v)
    | _ => rw [before] at named; cases named
  | grant mem same place => exact sound.grant_pairs mem same place
  | @empty t n c call =>
    refine State.Pairs.settled ?_ t
    rw [State.clearBeneficiary_setSlot]
    refine sound.pairs.setSlot_clear ?_
    unfold State.releasedSlot
    split <;> rfl
  | @giveUp t n c v slot =>
    have cleared := sound.pairs.setSlot_clear (t := t) (n := n) (x := .stuck c) rfl
    rwa [slot] at cleared
  | @order t n c v v' slot beneficiary =>
    refine sound.pairs.congr rfl fun p => ?_
    rw [State.owner_setSlot]
    split
    next here =>
      rw [← here, State.owner, slot]
      exact beneficiary
    next => rfl
  | @direct t n c free =>
    exact sound.pairs.congr rfl (State.owner_setSlot_plain (by rw [State.owner, free]; rfl) rfl)
  | join list nonzero fresh key => exact sound.join_pairs (.of_list list nonzero fresh key)
  | discard mem => exact sound.discard_pairs mem
  | refit => exact sound.pairs.refit _ _
  | drain => exact (sound.pairs.draining _).settled _
  | disable => exact sound.pairs.disable _
  | restart =>
    have unnamed : ∀ p, s.restart.owner p = none := fun p => by
      rw [State.owner, State.restart_slot]
      cases s.slot p.1 p.2 <;> rfl
    exact ⟨nofun, fun p b named => by rw [unnamed] at named; cases named⟩
  | openSurge => exact same (by simp only [State.raised]) (s.raised_slots _)
  | offer r =>
    refine same ?_ (s.offerStatus_slots r)
    obtain ⟨l, _, h⟩ | ⟨_, h⟩ | ⟨_, h⟩ := s.offerStatus_cases r <;> rw [h]
  | refusal =>
    rw [State.recordRefusal_frame]
    exact same rfl rfl
  | _ => exact same rfl rfl

end

end Sys2Proof.Machine
end

section
/-! PROOFS. Every step keeps the records: tags and calls over works, and the obligation (R7, R39, R90). -/

namespace Sys2Proof.Machine

variable {s u : State}

theorem State.settled_slots (s : State) (t : SectorId) : (s.settled t).slots = s.slots := by
  unfold State.settled
  split <;> rfl

theorem State.holds_of_waiting {b : Tag} (held : b ∈ s.waitingTags) : s.Holds b := .inl (List.mem_map.mp held)

section
variable (sound : s.RecordsSound)
include sound

/-! ## Calls that come and go -/

theorem State.RecordsSound.grant_gives {e x : Waiting} {t : SectorId} {n : SlotId} (mem : x ∈ s.allWaiting)
    (same : x.tag = e.tag ∧ x.cls = e.cls) :
    s.Gives ((s.setSlot t n (.active (s.callOf e))).removeWaiting e.cls e.tag) t n (s.callOf e) := by
  obtain ⟨c, waits⟩ := State.mem_allWaiting.mp mem
  obtain rfl : x.cls = c := sound.entries.cls c x waits
  have held : e.tag ∈ s.waitingTags := State.mem_waitingTags.mpr ⟨_, x, waits, same.1⟩
  refine ⟨fun v m => ?_, fun urgent => ?_, sound.once.nonzero _ held, ?_, fun v m d hd tag => ?_⟩
  · rw [State.removeWaiting, State.slot_congr (State.setWaiting_slots _ _ _), State.slot_setSlot]
  · have : e.cls = .emergency := urgent
    simp [State.callOf, this]
  · have := State.EntriesSound.not_mem_removeWaiting (s := s.setSlot t n (.active (s.callOf e))) (x := x) (c := e.cls)
      ⟨sound.entries.cls, sound.entries.firm, sound.entries.plain, sound.entries.keys⟩ sound.once.nodup (same.2 ▸ waits)
    rwa [same.1] at this
  · exact (sound.once.slots v m d hd).2 (tag ▸ held)

omit sound in
theorem State.gives_of_direct {t : SectorId} {n : SlotId} {c : Call} (nonzero : c.tag ≠ 0) (fresh : ¬s.Holds c.tag)
    (flag : c.cls = .emergency → c.preemptible = false) : s.Gives (s.setSlot t n (.active c)) t n c where
  slots _ _ := State.slot_setSlot ..
  flag := flag
  nonzero := nonzero
  fresh held := fresh (State.holds_of_waiting held)
  elsewhere v m d hd tag := fresh (.inr ⟨v, m, d, hd, tag⟩)

/-- Everything that a work does to the calls in the slots. -/
theorem State.Work.follows_or_gives (work : s.Work u) : s.SlotsFollow u ∨ ∃ t n c, s.Gives u t n c := by
  have written : ∀ {t : SectorId} {n : SlotId} {c : Call} {v : Vacate} {y : Slot}, s.slot t n = .vacating c v → y.call? = some c →
      s.SlotsFollow (s.setSlot t n y) := fun slot call => .setSlot (.of_vacating slot call)
  have later : ∀ {v w : State}, s.SlotsFollow v → w.slots = v.slots → s.SlotsFollow w := fun follows slots t n =>
    State.slot_congr slots t n ▸ follows t n
  cases work with
  | grant mem same => exact .inr ⟨_, _, _, sound.grant_gives mem same⟩
  | direct _ _ nonzero fresh flag => exact .inr ⟨_, _, _, State.gives_of_direct nonzero fresh flag⟩
  | signalSlots =>
    refine .inl fun t n => ?_
    rw [State.signalSlots_slot]
    cases slot : s.slot t n with
    | vacating c v => exact .of_vacating rfl rfl
    | _ => exact .refl _
  | @preempt e t n c victim =>
    obtain ⟨slot, -, -, lower⟩ := victim
    have calm : c.cls ≠ .emergency := by
      obtain ⟨general, -⟩ | ⟨priority, -⟩ := lower
      · simp [general]
      · simp [priority]
    refine .inl (later (.setSlot (y := .vacating c (s.firstOrder e)) ?_) rfl)
    rw [slot]
    exact ⟨fun _ => id, fun d same urgent => absurd (Slot.active.inj same ▸ urgent) calm⟩
  | unmark slot => exact .inl (later (written slot rfl) rfl)
  | withdraw _ _ slot => exact .inl (later (written slot rfl) rfl)
  | giveUp slot =>
    refine .inl fun t n => ?_
    rw [State.clearBeneficiary_slot]
    exact written slot rfl t n
  | order slot => exact .inl (written slot rfl)
  | @empty t n =>
    refine .inl fun v m => ?_
    have slots : (((s.clearBeneficiary (s.slot t n).beneficiary?).setSlot t n (s.releasedSlot t n)).settled t).slot v m =
        (s.setSlot t n (s.releasedSlot t n)).slot v m := by
      rw [State.clearBeneficiary_setSlot, State.slot_congr (State.settled_slots _ _), State.clearBeneficiary_slot]
    rw [slots]
    refine State.SlotsFollow.setSlot (.of_empty ?_) v m
    unfold State.releasedSlot
    split <;> rfl
  | touch | join => exact .inl (.of_same (State.setWaiting_slots _ _ _))
  | @discard c e =>
    refine .inl fun t n => ?_
    obtain h | h := s.discardEntry_slot c e t n <;> rw [h]
    · exact .refl _
    · exact .withoutBeneficiary _
  | @refit f =>
    refine .inl fun t n => ?_
    rw [State.refit]
    exact (State.SlotsFollow.resizeSlots _ _ _ _ (s.setSector _ _) t n).trans (State.SlotsFollow.dropEarmarks _ _ t n)
  | @drain t =>
    refine .inl fun v n => ?_
    rw [State.slot_congr (State.settled_slots _ _), State.draining]
    exact State.SlotsFollow.dropEarmarks _ (s.setSector _ _) v n
  | @disable t =>
    refine .inl fun v n => ?_
    rw [State.disable]
    exact State.SlotsFollow.resizeSlots _ _ _ _ (s.setSector _ _) v n
  | restart =>
    refine .inl fun t n => ?_
    rw [State.restart_slot]
    cases slot : s.slot t n with
    | vacating c v => exact .of_vacating rfl rfl
    | _ => exact .refl _
  | openSurge => exact .inl (.of_same (s.raised_slots _))
  | offer r => exact .inl (.of_same (s.offerStatus_slots r))
  | refusal =>
    rw [State.recordRefusal_frame]
    exact .inl (.of_same rfl)
  | _ => exact .inl (.of_same rfl)

/-! ## Tags -/

omit sound in
theorem State.Carries.tags (carries : s.Carries u) : u.waitingTags.Sublist s.waitingTags := by
  simp only [State.waitingTags, List.map_append]
  exact ((carries.lists .emergency).tags.append (carries.lists .priority).tags).append (carries.lists .general).tags

omit sound in
theorem State.waitingTags_setWaiting_append (s : State) (c : CallClass) (l : List Waiting) (x : Waiting) :
    (s.setWaiting c (l ++ [x])).waitingTags.Perm (x.tag :: (s.setWaiting c l).waitingTags) := by
  have moved : ∀ a b d : List Tag, (a ++ (b ++ [x.tag]) ++ d).Perm (x.tag :: (a ++ b ++ d)) := fun a b d => by
    simpa [List.append_assoc] using (List.perm_middle (a := x.tag) (l₁ := a ++ b) (l₂ := d))
  cases c with
  | emergency => simp [State.waitingTags, State.setWaiting]
  | priority => simpa [State.waitingTags, State.setWaiting] using moved (s.emergency.map Waiting.tag) (l.map Waiting.tag) _
  | general =>
    simpa [State.waitingTags, State.setWaiting] using
      moved (s.emergency.map Waiting.tag ++ s.priority.map Waiting.tag) (l.map Waiting.tag) []

theorem State.RecordsSound.join_once {f : AdmitFields} {c : CallClass} {pre : Bool} {l : List Waiting}
    (joins : s.Joins u f c pre l) : TagsOnce u.waitingTags u.calls := by
  obtain ⟨rfl, before, -, -, nonzero, fresh, -⟩ := joins
  have shorter : (s.setWaiting c l).waitingTags.Sublist s.waitingTags := by
    refine State.Carries.tags (.setWaiting s (.of_sublist before) fun plain y hy => plain y (before.subset hy))
  have calls : (s.setWaiting c (l ++ [s.newEntry f c pre])).calls = s.calls :=
    funext fun t => funext fun n => congrArg Slot.call? (State.slot_congr (State.setWaiting_slots _ _ _) t n)
  rw [calls]
  refine (sound.once.of_sublist shorter fun _ _ _ => id).cons nonzero (fun held => fresh (State.holds_of_waiting (shorter.subset held)))
    (fun t n d hd tag => fresh (.inr ⟨t, n, d, hd, tag⟩)) (State.waitingTags_setWaiting_append s c l _)

theorem State.Gives.once {t : SectorId} {n : SlotId} {c : Call} (gives : s.Gives u t n c) (carries : s.Carries u) :
    TagsOnce u.waitingTags u.calls := by
  refine (sound.once.of_sublist carries.tags fun _ _ _ => id).setSlot (t := t) (n := n) (c := c) gives.nonzero gives.fresh
    (fun v m d hd tag => absurd tag (gives.elsewhere v m d hd)) ?_ fun v m other => ?_
  · rw [State.calls, gives.slots, if_pos ⟨rfl, rfl⟩]
    rfl
  · rw [State.calls, gives.slots, if_neg other]
    rfl

theorem State.Gives.firm {t : SectorId} {n : SlotId} {c : Call} (gives : s.Gives u t n c) (v : SectorId) (m : SlotId) :
    (u.slot v m).Firm := by
  rw [gives.slots]
  split
  · intro d held urgent
    obtain rfl : c = d := Option.some.inj held
    exact ⟨gives.flag urgent, rfl⟩
  · exact sound.firm v m

theorem State.Work.keeps_recordsSound (work : s.Work u) : u.RecordsSound := by
  have pairs := State.Work.pairs sound work
  obtain carries | ⟨f, c, pre, l, joins⟩ := work.carries_or_joins
  · have entries := carries.entriesSound sound.entries
    obtain follows | ⟨t, n, c, gives⟩ := State.Work.follows_or_gives sound work
    · exact ⟨sound.once.of_sublist carries.tags fun t n => (follows t n).call, entries,
        fun t n => (follows t n).firm (sound.firm t n), pairs⟩
    · exact ⟨State.Gives.once sound gives carries, entries, State.Gives.firm sound gives, pairs⟩
  · have firm : ∀ t n, (u.slot t n).Firm := fun t n => by
      rw [joins.next, State.slot_congr (State.setWaiting_slots _ _ _)]
      exact sound.firm t n
    exact ⟨sound.join_once joins, joins.entriesSound sound.entries, firm, pairs⟩

end

/-! ## Every step -/

/-- The records stand in the waiting lists and the slots. -/
theorem State.RecordsPaired.of_same (paired : s.RecordsPaired) (emergency : u.emergency = s.emergency)
    (priority : u.priority = s.priority) (general : u.general = s.general) (slots : u.slots = s.slots) : u.RecordsPaired := by
  have slot : ∀ t n, u.slot t n = s.slot t n := State.slot_congr slots
  constructor <;> simp only [State.waitingTags, emergency, priority, general, slot]
  exacts [paired.waitingTags, paired.waitingTagNonzero, paired.slotTagNonzero, paired.slotTags, paired.emergencyClass,
    paired.priorityClass, paired.generalClass, paired.keys, paired.earmarks, paired.beneficiaries, paired.emergencyCalls]

theorem powerOn_slot (t : SectorId) (n : SlotId) : State.powerOn.slot t n = .closed := by
  rw [State.slot, State.powerOn]
  simp only [Table.get_replicate]

theorem powerOn_recordsPaired : State.powerOn.RecordsPaired := by
  refine (State.recordsPaired_iff _).mpr ⟨⟨.nil, nofun, ?_, ?_⟩, ⟨?_, nofun, ?_, nofun⟩, ?_, nofun, ?_⟩
  · intro t n c h
    rw [State.calls, powerOn_slot] at h
    cases h
  · intro t n c v m d h
    rw [State.calls, powerOn_slot] at h
    cases h
  · rintro (_ | _ | _) <;> exact nofun
  · rintro (_ | _ | _) _ <;> exact nofun
  · intro t n c h
    rw [powerOn_slot] at h
    cases h
  · intro p b h
    rw [State.owner, powerOn_slot] at h
    cases h

/-- Settles O58: works keep tags, entries, calls and earmarks, and no other move writes lists or slots. -/
theorem stepKeepsTheRecords : Obligations.StepKeepsTheRecords := by
  intro s t paired next
  refine step_keeps (P := State.RecordsPaired) (fun s _ _ paired => paired.of_same rfl rfl rfl rfl)
    (fun s u paired work => u.recordsPaired_iff.mpr (State.Work.keeps_recordsSound (s.recordsPaired_iff.mp paired) work))
    (fun s _ paired _ => paired.of_same rfl rfl rfl rfl) powerOn_recordsPaired (fun s b1 b0 t paired ended => ?_)
    (fun s paired => paired.of_same rfl rfl rfl rfl) next paired
  obtain rfl := Host.Outcome.next.inj ended
  split
  · exact paired.of_same rfl rfl rfl rfl
  · exact paired

end Sys2Proof.Machine
end

section
/-! SUPPORT. Deadlines, points and boundaries over works and over a millisecond (R115, R128, R146, R147, R153, R156). -/

namespace Sys2Proof.Machine

variable {s u : State}

/-! ## Local time goes on (R146, R147) -/

theorem signedDiff_swap {a b : Time} (small : -2147483647 ≤ signedDiff a b) : signedDiff b a = -signedDiff a b := by
  have bounds := (a - b).toInt_lt
  unfold signedDiff at small ⊢
  rw [show b - a = -(a - b) by simp, BitVec.toInt_neg]
  exact Int.bmod_eq_of_le (by omega) (by omega)

theorem signedDiff_add_one {a b : Time} (small : signedDiff a b < 2147483647) : signedDiff (a + 1) b = signedDiff a b + 1 := by
  have low : -2147483648 ≤ (a - b).toInt := (a - b).le_toInt
  unfold signedDiff at small ⊢
  rw [show a + 1 - b = a - b + 1 by abel, BitVec.toInt_add, show (1 : Time).toInt = 1 from rfl]
  exact Int.bmod_eq_of_le (by omega) (by omega)

theorem signedDiff_add_one_right {a b : Time} (small : -2147483647 ≤ signedDiff a b) :
    signedDiff a (b + 1) = signedDiff a b - 1 := by
  have high : (a - b).toInt < 2147483648 := (a - b).toInt_lt
  unfold signedDiff at small ⊢
  rw [show a - (b + 1) = a - b - 1 by abel, BitVec.toInt_sub, show (1 : Time).toInt = 1 from rfl]
  exact Int.bmod_eq_of_le (by omega) (by omega)

/-- A time not behind local time is as many milliseconds after it as their difference. -/
theorem eq_after_of_signedDiff {t now : Time} (ahead : 0 ≤ signedDiff t now) : t = after now (signedDiff t now).toNat := by
  have difference : BitVec.ofNat 32 (signedDiff t now).toNat = t - now := by
    apply BitVec.eq_of_toInt_eq
    rw [← BitVec.ofInt_natCast, Int.toNat_of_nonneg ahead, signedDiff, BitVec.ofInt_toInt]
  rw [after, difference]
  abel

/-! ## The sweep's deadlines (R153) -/

/-- A deadline set just now, at most its lead ahead. -/
theorem sweepOnTime_after (now : Time) {k : Nat} {lead : Int} (half : k < 2147483648) (within : (k : Int) ≤ lead) :
    SweepOnTime now (after now k) lead := by
  have ahead := signedDiff_after now half
  have back : signedDiff now (after now k) = -(k : Int) := by rw [signedDiff_swap (by omega), ahead]
  rw [SweepOnTime, back]
  omega

/-- A deadline that is not overdue stands at most 10 ms back a millisecond later. -/
theorem SweepOnTime.tick {now deadline : Time} {lead : Int} (onTime : SweepOnTime now deadline lead)
    (punctual : overdue deadline now = false) : SweepOnTime (now + 1) deadline lead := by
  obtain ⟨ahead, behind⟩ := onTime
  have before : ¬(10 : Int) ≤ signedDiff now deadline := by simpa [overdue, Config.sweepLateness] using punctual
  rw [SweepOnTime, signedDiff_add_one (by omega)]
  omega

/-! ## The watched deadline of a slot -/

/-- The deadline of a VACATING slot that the sweep watches. -/
def Slot.watched? : Slot → Option Time
  | .vacating _ v => if v.watch = .watched then some v.deadline else none
  | _ => none

theorem Slot.watched?_of_vacating {x : Slot} {c : Call} {v : Vacate} (slot : x = .vacating c v) (watched : v.watch = .watched) :
    x.watched? = some v.deadline := by
  rw [slot, Slot.watched?, if_pos watched]

theorem Slot.watched?_eq_some {x : Slot} {d : Time} (h : x.watched? = some d) :
    ∃ c v, x = .vacating c v ∧ v.watch = .watched ∧ v.deadline = d := by
  cases x with
  | vacating c v =>
    rw [Slot.watched?] at h
    split at h
    next watched => exact ⟨c, v, rfl, watched, Option.some.inj h⟩
    next => cases h
  | _ => cases h

@[simp] theorem Slot.watched?_withoutBeneficiary (x : Slot) : x.withoutBeneficiary.watched? = x.watched? := by
  cases x <;> rfl

@[simp] theorem Slot.watched?_restarted (x : Slot) : x.restarted.watched? = x.watched? := by
  cases x <;> rfl

@[simp] theorem Slot.watched?_signal (x : Slot) : x.signal.watched? = x.watched? := by
  cases x with
  | vacating c v =>
    rw [Slot.signal, Slot.watched?, Slot.watched?]
    cases v.watch <;> rfl
  | _ => rfl

@[simp] theorem resizedSlot_watched? (raised cut : Bool) (capacity : Nat) (n : SlotId) (x : Slot) :
    (resizedSlot raised cut capacity n x).watched? = x.watched? := by
  unfold resizedSlot
  split_ifs <;> simp_all [Slot.watched?]

/-- A slot's watched deadline stood before, or is set just now. -/
def State.Watches (s u : State) : Prop :=
  ∀ t n d, (u.slot t n).watched? = some d → (s.slot t n).watched? = some d ∨ d = after s.localTime s.settings.vacateTimeout

theorem State.Watches.of_same (slots : u.slots = s.slots) : s.Watches u := fun t n _ h =>
  .inl (State.slot_congr slots t n ▸ h)

theorem State.Watches.setSlot {t : SectorId} {n : SlotId} {y : Slot}
    (slot : ∀ d, y.watched? = some d → (s.slot t n).watched? = some d ∨ d = after s.localTime s.settings.vacateTimeout) :
    s.Watches (s.setSlot t n y) := by
  intro v m d
  rw [State.slot_setSlot]
  split
  next here =>
    obtain ⟨rfl, rfl⟩ := here
    exact slot d
  next => exact .inl

theorem State.Watches.congr {v w : State} (watches : s.Watches v) (slots : w.slots = v.slots) : s.Watches w := fun t n d h =>
  watches t n d (State.slot_congr slots t n ▸ h)

theorem State.Watches.of_watched (same : ∀ t n, (u.slot t n).watched? = (s.slot t n).watched?) : s.Watches u := fun t n _ h =>
  .inl ((same t n).symm.trans h)

theorem State.setWaiting_watches (s : State) (c : CallClass) (l : List Waiting) : s.Watches (s.setWaiting c l) :=
  .of_same (State.setWaiting_slots _ _ _)

/-- Everything that a work does to the watched deadlines of slots. -/
theorem State.Work.watches (work : s.Work u) : s.Watches u := by
  have active : ∀ t n c, s.Watches (s.setSlot t n (.active c)) := fun t n c => .setSlot nofun
  cases work with
  | signalSlots => exact .of_watched fun t n => by rw [State.signalSlots_slot, Slot.watched?_signal]
  | @preempt e t n c =>
    have ordered : s.Watches (s.setSlot t n (.vacating c (s.firstOrder e))) := .setSlot fun d h => .inr (Option.some.inj h).symm
    exact ordered.congr rfl
  | @unmark t n c v b slot =>
    refine (State.Watches.setSlot fun d h => .inl ?_).congr (v := s.setSlot t n _) rfl
    rw [slot]
    exact h
  | withdraw => exact (active _ _ _).congr rfl
  | direct => exact active _ _ _
  | grant => exact (active _ _ _).congr (State.setWaiting_slots _ _ _)
  | @empty t n =>
    have released : (s.releasedSlot t n).watched? = none := by
      unfold State.releasedSlot
      split <;> rfl
    refine (State.Watches.setSlot (y := s.releasedSlot t n) fun d h => ?_).congr (v := s.setSlot t n _) ?_
    · rw [released] at h
      cases h
    · rw [State.settled_slots, State.clearBeneficiary_setSlot]
      cases (s.slot t n).beneficiary? <;> rfl
  | @giveUp t n c v slot =>
    refine (State.Watches.setSlot (y := .stuck c) nofun).congr (v := s.setSlot t n _) ?_
    cases v.beneficiary <;> rfl
  | @order t n c v v' slot beneficiary watch =>
    refine State.Watches.setSlot fun d h => .inr ?_
    obtain ⟨_, w, same, watched, deadline⟩ := Slot.watched?_eq_some h
    obtain ⟨-, rfl⟩ := Slot.vacating.inj same
    exact deadline.symm.trans (watch watched)
  | touch | join => exact s.setWaiting_watches _ _
  | @discard c e =>
    refine .of_watched fun t n => ?_
    obtain h | h := s.discardEntry_slot c e t n <;> rw [h]
    exact Slot.watched?_withoutBeneficiary _
  | @refit f =>
    refine .of_watched fun t n => ?_
    rw [State.refit, dropEarmarks_slot, resizeSlots_allSlots, State.slot_setSector]
    split_ifs <;> simp
  | @drain t =>
    refine .of_watched fun v n => ?_
    rw [State.slot_congr (State.settled_slots _ _), State.draining_slot]
    split_ifs <;> simp
  | @disable t =>
    refine .of_watched fun v n => ?_
    rw [State.disable, resizeSlots_allSlots, State.slot_setSector]
    split_ifs <;> simp
  | restart => exact .of_watched fun t n => by rw [State.restart_slot, Slot.watched?_restarted]
  | openSurge => exact .of_same (s.raised_slots _)
  | offer r => exact .of_same (s.offerStatus_slots r)
  | refusal =>
    rw [State.recordRefusal_frame]
    exact .of_same rfl
  | _ => exact .of_same rfl

end Sys2Proof.Machine
end

section
/-! PROOFS. Every step keeps a held part at its power-on values and a running one on time (R115, R128, R153, R156, R198). -/

namespace Sys2Proof.Machine

variable {s u : State}

/-! ## The laws of time, block by block -/

/-- Local time has passed neither the next boundary nor a surge point (R115, R128, R156). -/
structure Governor.OnTime (g : Governor) (now : Time) : Prop where
  boundary : 0 ≤ signedDiff g.nextBoundary now ∧ signedDiff g.nextBoundary now ≤ 5000
  surge : ∀ w, g.surge = some w →
    0 ≤ signedDiff w.close now ∧ signedDiff w.close now ≤ 3600000 ∧ (w.noticeDue = true → 10000 ≤ signedDiff w.close now)

/-- No deadline or escalation point of a waiting entry is late (R153). -/
structure State.EntriesOnTime (s : State) : Prop where
  waiting : ∀ c, ∀ e ∈ s.waiting c, e.watch = .watched → SweepOnTime s.localTime e.deadline 255000
  escalation : ∀ e ∈ s.emergency, ∀ p, e.escalationPoint = some p → SweepOnTime s.localTime p 60000

/-- No vacate deadline is late (R153). -/
def State.SlotsOnTime (s : State) : Prop :=
  ∀ t n d, (s.slot t n).watched? = some d → SweepOnTime s.localTime d 10000

theorem State.onTime_iff (s : State) : s.OnTime ↔ s.governor.OnTime s.localTime ∧ s.EntriesOnTime ∧ s.SlotsOnTime := by
  constructor
  · intro h
    refine ⟨⟨h.boundary, h.surge⟩, ⟨fun c e waits => ?_, h.escalation⟩, fun t n d deadline => ?_⟩
    · exact h.waiting e (State.mem_allWaiting.mpr ⟨c, waits⟩)
    · obtain ⟨c, v, slot, watched, rfl⟩ := Slot.watched?_eq_some deadline
      exact h.vacate t n c v slot watched
  · rintro ⟨governor, entries, slots⟩
    refine ⟨governor.boundary, governor.surge, fun e mem watched => ?_, entries.escalation, fun t n c v slot watched => ?_⟩
    · obtain ⟨c, waits⟩ := State.mem_allWaiting.mp mem
      exact entries.waiting c e waits watched
    · exact slots t n v.deadline (Slot.watched?_of_vacating slot watched)

/-! ## Works -/

theorem State.Carries.entriesOnTime (carries : s.Carries u) (time : u.localTime = s.localTime) (onTime : s.EntriesOnTime) :
    u.EntriesOnTime where
  waiting c y hy watched := by
    obtain ⟨x, hx, later⟩ := (carries.lists c).entries y hy
    obtain ⟨before, deadline⟩ := later.watch watched
    rw [time, deadline]
    exact onTime.waiting c x hx before
  escalation y hy p point := by
    obtain ⟨x, hx, later⟩ := (carries.lists .emergency).entries y hy
    rw [time]
    exact onTime.escalation x hx p (later.point p point)

theorem Settings.InRange.wait_le {g : Settings} (range : g.InRange) (c : CallClass) : g.wait c ≤ 255 := by
  cases c
  exacts [range.emergencyWait.2, range.priorityWait.2, range.generalWait.2]

/-- A new entry's deadline and escalation point are set just now (R44). -/
theorem State.Joins.entriesOnTime {f : AdmitFields} {c : CallClass} {pre : Bool} {l : List Waiting} (joins : s.Joins u f c pre l)
    (range : s.settings.InRange) (onTime : s.EntriesOnTime) : u.EntriesOnTime := by
  obtain ⟨rfl, before, -, -, -, -, -⟩ := joins
  have wait := range.wait_le c
  have lead := range.escalationTime
  constructor <;> rw [State.setWaiting_localTime]
  · intro d y hy watched
    by_cases here : c = d
    · subst here
      rw [State.waiting_setWaiting] at hy
      obtain old | rfl := mem_append_singleton hy
      · exact onTime.waiting c y (before.subset old) watched
      · exact sweepOnTime_after s.localTime (by omega) (by omega)
    · rw [State.waiting_setWaiting_ne s here] at hy
      exact onTime.waiting d y hy watched
  · intro y hy p point
    cases c with
    | emergency =>
      obtain old | rfl := mem_append_singleton hy
      · exact onTime.escalation y (before.subset old) p point
      · rw [State.newEntry] at point
        dsimp only at point
        split at point
        next => exact Option.some.inj point ▸ sweepOnTime_after s.localTime (by omega) (by omega)
        next => cases point
    | priority => exact onTime.escalation y hy p point
    | general => exact onTime.escalation y hy p point

theorem State.Watches.slotsOnTime (watches : s.Watches u) (time : u.localTime = s.localTime) (range : s.settings.InRange)
    (onTime : s.SlotsOnTime) : u.SlotsOnTime := by
  intro t n d deadline
  have timeout := range.vacateTimeout
  rw [time]
  obtain before | rfl := watches t n d deadline
  · exact onTime t n d before
  · exact sweepOnTime_after s.localTime (by omega) (by omega)

/-! ### The governor -/

theorem Governor.OnTime.congr {g g' : Governor} {now : Time} (onTime : g.OnTime now) (boundary : g'.nextBoundary = g.nextBoundary)
    (surge : g'.surge = g.surge) : g'.OnTime now :=
  ⟨boundary ▸ onTime.boundary, fun w opened => onTime.surge w (surge ▸ opened)⟩

/-- The staged copies become active at the boundary, and the next one is a period ahead (R115, R116). -/
theorem Governor.OnTime.copyStaged {g : Governor} {now : Time} (onTime : g.OnTime now)
    (due : reached g.nextBoundary now = true) (period : PeriodInRange g.stagedPeriod) : g.copyStaged.OnTime now := by
  obtain ⟨ahead, near⟩ := onTime.boundary
  have here : signedDiff g.nextBoundary now = 0 := by
    have passed : 0 ≤ signedDiff now g.nextBoundary := by simpa [reached] using due
    rw [signedDiff_swap (by omega)] at passed
    omega
  have boundary : g.nextBoundary = now := by
    have := eq_after_of_signedDiff ahead
    rwa [here, Int.toNat_zero, after, BitVec.add_zero] at this
  obtain ⟨low, high, -⟩ := period
  refine ⟨?_, onTime.surge⟩
  rw [Governor.copyStaged, boundary]
  dsimp only
  rw [signedDiff_after now (by omega)]
  omega

/-- A window that closes some milliseconds from now, its notice due only with 10 s to go. -/
theorem Governor.OnTime.setSurge {g : Governor} {now : Time} (onTime : g.OnTime now) {w : Surge} {left : Nat}
    (close : w.close = after now left) (hour : left ≤ 3600000) (notice : w.noticeDue = true → 10000 ≤ left) :
    ({ g with surge := some w } : Governor).OnTime now := by
  refine ⟨onTime.boundary, fun v opened => ?_⟩
  obtain rfl := Option.some.inj opened
  rw [close, signedDiff_after now (by omega)]
  exact ⟨by omega, by omega, fun h => by exact_mod_cast notice h⟩

theorem Governor.OnTime.extend {g : Governor} {now : Time} (onTime : g.OnTime now) {w : Surge} (opened : g.surge = some w)
    {seconds : Nat} (range : seconds ≤ 3600) : ({ g with surge := some (w.extend now seconds) } : Governor).OnTime now := by
  obtain ⟨ahead, hour, notice⟩ := onTime.surge w opened
  have close := eq_after_of_signedDiff ahead
  rw [Surge.extend_after close (by omega) range]
  refine onTime.setSurge rfl (Nat.min_le_right _ _) fun due => ?_
  simp only [Bool.or_eq_true, decide_eq_true_eq] at due
  obtain before | far := due
  · have := notice before
    omega
  · omega

theorem State.Work.governorOnTime (work : s.Work u) (range : s.InRange) (onTime : s.governor.OnTime s.localTime) :
    u.governor.OnTime s.localTime := by
  have same : u.governor = s.governor → u.governor.OnTime s.localTime := fun h => h ▸ onTime
  cases work with
  | stageRow | timers => exact onTime.congr rfl rfl
  | copy due => exact onTime.copyStaged due range.stagedPeriod
  | @openSurge w seconds bounds close notice =>
    rw [State.raised_governor]
    exact onTime.setSurge close (by omega) fun due => by have := notice due; omega
  | @notice w opened =>
    obtain ⟨ahead, hour, -⟩ := onTime.surge w opened
    exact onTime.setSurge (w := { w with noticeDue := false }) (left := (signedDiff w.close s.localTime).toNat)
      (eq_after_of_signedDiff ahead) (by omega) nofun
  | extend opened bounds => exact onTime.extend opened bounds.2
  | closeSurge => exact ⟨onTime.boundary, nofun⟩
  | restart =>
    obtain ⟨low, high, -⟩ := range.activePeriod
    rw [State.restart, State.restartScreening_frame]
    refine ⟨?_, nofun⟩
    simp only [Governor.restarted]
    rw [signedDiff_after s.localTime (by omega)]
    omega
  | offer r => exact same (s.offerStatus_fixed r).governor
  | touch | join => exact same (s.setWaiting_fixed _ _).governor
  | grant => exact same ((s.setSlot_fixed _ _ _).trans (State.setWaiting_fixed _ _ _)).governor
  | empty =>
    exact same (((s.clearBeneficiary_fixed _).trans (State.setSlot_fixed _ _ _ _)).trans (State.settled_fixed _ _)).governor
  | giveUp => exact same ((s.setSlot_fixed _ _ _).trans (State.clearBeneficiary_fixed _ _)).governor
  | discard => exact same (s.discardEntry_fixed _ _).governor
  | refit => exact same (s.refit_fixed _ _).governor
  | drain => exact same ((s.draining_fixed _).trans (State.settled_fixed _ _)).governor
  | disable => exact same (s.disable_fixed _).governor
  | refusal =>
    rw [State.recordRefusal_frame]
    exact onTime
  | _ => exact same rfl

theorem State.Work.keeps_onTime (work : s.Work u) (range : s.InRange) (onTime : s.OnTime) : u.OnTime := by
  obtain ⟨governor, entries, slots⟩ := s.onTime_iff.mp onTime
  have time := work.untouched.localTime
  refine u.onTime_iff.mpr ⟨time ▸ work.governorOnTime range governor, ?_, work.watches.slotsOnTime time range.settings slots⟩
  obtain carries | ⟨f, c, pre, l, joins⟩ := work.carries_or_joins
  · exact carries.entriesOnTime time entries
  · exact joins.entriesOnTime range.settings entries

theorem State.OnTime.congr (onTime : s.OnTime) (time : u.localTime = s.localTime) (governor : u.governor = s.governor)
    (waiting : u.waiting = s.waiting) (slots : u.slots = s.slots) : u.OnTime := by
  obtain ⟨timers, entries, vacate⟩ := s.onTime_iff.mp onTime
  have emergency : u.emergency = s.emergency := congrFun waiting .emergency
  refine u.onTime_iff.mpr ⟨by rwa [time, governor], ⟨?_, ?_⟩, fun t n d => ?_⟩
  · rw [time, waiting]
    exact entries.waiting
  · rw [time, emergency]
    exact entries.escalation
  · rw [time, State.slot_congr slots]
    exact vacate t n d

/-! ## A millisecond -/

theorem eventIf_eq_nil {b : Bool} {i : Instr} : eventIf b i = [] ↔ b = false := by
  cases b <;> simp [eventIf]

theorem State.waitingEvents_eq_nil {p : Waiting → Bool} : s.waitingEvents p = [] ↔ ∀ c, ∀ e ∈ s.waiting c, p e = false := by
  simp only [State.waitingEvents, List.map_eq_nil_iff, List.filter_eq_nil_iff, Bool.not_eq_true, State.mem_allWaiting]
  exact ⟨fun h c e mem => h e ⟨c, mem⟩, fun h e ⟨c, mem⟩ => h c e mem⟩

theorem State.escalationEvents_eq_nil {p : Time → Bool} :
    s.escalationEvents p = [] ↔ ∀ e ∈ s.emergency, ∀ d, e.escalationPoint = some d → p d = false := by
  simp only [State.escalationEvents, List.map_eq_nil_iff, List.filter_eq_nil_iff, Bool.not_eq_true]
  refine forall₂_congr fun e _ => ?_
  cases e.escalationPoint <;> simp

theorem State.vacateEvents_eq_nil {p : Vacate → Bool} :
    s.vacateEvents p = [] ↔ ∀ t n c v, s.slot t n = .vacating c v → p v = false := by
  simp only [State.vacateEvents, List.map_eq_nil_iff, List.filter_eq_nil_iff, Bool.not_eq_true]
  constructor
  · intro h t n c v slot
    simpa [slot, Slot.vacateTest] using h (t, n) (mem_allPlaces t n)
  · intro h q _
    cases slot : s.slot q.1 q.2 with
    | vacating c v => exact h q.1 q.2 c v slot
    | _ => rfl

/-- A millisecond brings a time that lies ahead one nearer. -/
theorem signedDiff_tick {t now : Time} (ahead : 0 ≤ signedDiff t now) (unreached : reached t now = false) :
    signedDiff t (now + 1) = signedDiff t now - 1 ∧ 0 < signedDiff t now := by
  refine ⟨signedDiff_add_one_right (by omega), ?_⟩
  have later : ¬0 ≤ signedDiff now t := by simpa [reached] using unreached
  rw [signedDiff_swap (by omega)] at later
  omega

/-- With no timer event due local time passes no boundary and no surge point (R156). -/
theorem State.governorOnTime_tick (onTime : s.governor.OnTime s.localTime) (due : s.timerEvents = []) :
    s.governor.OnTime (s.localTime + 1) := by
  rw [State.timerEvents, List.append_eq_nil_iff, eventIf_eq_nil] at due
  obtain ⟨boundary, points⟩ := due
  constructor
  · obtain ⟨ahead, near⟩ := onTime.boundary
    obtain ⟨nearer, positive⟩ := signedDiff_tick ahead boundary
    omega
  · intro w opened
    simp only [opened, List.append_eq_nil_iff, eventIf_eq_nil] at points
    obtain ⟨notice, expiry⟩ := points
    obtain ⟨ahead, hour, due⟩ := onTime.surge w opened
    obtain ⟨nearer, positive⟩ := signedDiff_tick ahead expiry
    refine ⟨by omega, by omega, fun unsent => ?_⟩
    have far := due unsent
    have unclosed : closingReached w s.localTime = false := by simpa [unsent] using notice
    rw [closingReached_after (eq_after_of_signedDiff ahead) (by omega), decide_eq_false_iff_not] at unclosed
    omega

/-- With no sweep event due no watched deadline is overdue (R153). -/
theorem State.tick_sweep (entries : s.EntriesOnTime) (slots : s.SlotsOnTime)
    (due : s.sweepEvents (fun d => overdue d s.localTime) = []) : s.tick.EntriesOnTime ∧ s.tick.SlotsOnTime := by
  simp only [State.sweepEvents, List.append_eq_nil_iff, State.waitingEvents_eq_nil, State.escalationEvents_eq_nil,
    State.vacateEvents_eq_nil, Bool.and_eq_false_iff, decide_eq_false_iff_not] at due
  obtain ⟨⟨waiting, escalation⟩, vacate⟩ := due
  refine ⟨⟨fun c e mem watched => ?_, fun e mem d point => ?_⟩, fun t n d deadline => ?_⟩
  · exact (entries.waiting c e mem watched).tick ((waiting c e mem).resolve_left (not_not.mpr watched))
  · exact (entries.escalation e mem d point).tick (escalation e mem d point)
  · obtain ⟨c, v, slot, watched, rfl⟩ := Slot.watched?_eq_some deadline
    exact (slots t n v.deadline deadline).tick ((vacate t n c v slot).resolve_left (not_not.mpr watched))

theorem State.OnTime.tick (onTime : s.OnTime) (due : s.dueEvents = []) : s.tick.OnTime := by
  simp only [State.dueEvents, List.append_eq_nil_iff] at due
  obtain ⟨⟨⟨⟨⟨⟨-, timers⟩, sweep⟩, -⟩, -⟩, -⟩, -⟩ := due
  obtain ⟨governor, entries, slots⟩ := s.onTime_iff.mp onTime
  exact (State.onTime_iff _).mpr ⟨State.governorOnTime_tick governor timers, State.tick_sweep entries slots sweep⟩

/-! ## The two ends of a reset (R198) -/

theorem powerOn_onTime : State.powerOn.OnTime := by
  refine (State.onTime_iff _).mpr ⟨⟨by decide, nofun⟩, ⟨?_, nofun⟩, fun t n d deadline => ?_⟩
  · rintro (_ | _ | _) <;> exact nofun
  · rw [powerOn_slot] at deadline
    cases deadline

/-! ## Every step -/

theorem State.Moves.keeps_time (moves : s.Moves u) (range : s.InRange) (held : s.ResetHeld) (onTime : s.OnTime) :
    u.ResetHeld ∧ u.OnTime := by
  cases moves with
  | changes changes still =>
    by_cases inReset : s.inReset = true
    · rw [still inReset]
      exact ⟨held, onTime⟩
    · refine ⟨fun reset => absurd (changes.clock.2.1 ▸ reset) inReset, ?_⟩
      have kept : u.InRange ∧ u.OnTime :=
        changes.keeps (P := fun s => s.InRange ∧ s.OnTime)
          (fun s u both work => ⟨work.keeps_inRange both.1, work.keeps_onTime both.1 both.2⟩)
          (fun s k both _ => ⟨both.1.congr rfl rfl rfl, both.2.congr rfl rfl rfl rfl⟩) ⟨range, onTime⟩
      exact kept.2
  | powerOn reset =>
    obtain rfl := Host.Outcome.next.inj reset
    exact ⟨fun _ => rfl, powerOn_onTime.congr rfl rfl rfl rfl⟩
  | resetEnd b1 b0 ended =>
    obtain rfl := Host.Outcome.next.inj ended
    split
    next inReset =>
      refine ⟨nofun, ?_⟩
      rw [held inReset]
      exact powerOn_onTime.congr rfl rfl rfl rfl
    next => exact ⟨held, onTime⟩
  | tick running due ticked =>
    rw [ticked]
    exact ⟨fun reset => absurd reset (by simp [State.tick, running]), onTime.tick due⟩

/-- Settles O60: works keep the times, a millisecond passes only when nothing is due, and a held part stands still. -/
theorem stepKeepsTheTime : Obligations.StepKeepsTheTime := by
  intro s t range held onTime next
  obtain ⟨u, same, moves⟩ := step_moves next
  refine moves.keeps_time ?_ ?_ ?_
  · exact same ▸ range.congr rfl rfl rfl
  · intro reset
    have before := held (by rw [same] at reset; exact reset)
    rw [same, before]
  · exact same ▸ onTime.congr rfl rfl rfl rfl

end Sys2Proof.Machine
end

section
/-! SUPPORT. The codec of the requests (10.6): what the decoder reads from a body, kind by kind, and the body that a command stands
for. -/

namespace Sys2Proof.Machine

/-! ## Numbers of several octets -/

theorem join3_octets (x : BitVec 24) : join3 (x.extractLsb' 16 8) (x.extractLsb' 8 8) (x.extractLsb' 0 8) = x := by
  apply BitVec.eq_of_getLsbD_eq
  intro i hi
  simp only [join3, BitVec.getLsbD_append, BitVec.getLsbD_extractLsb']
  grind

theorem join4_octets (x : BitVec 32) :
    join4 (x.extractLsb' 24 8) (x.extractLsb' 16 8) (x.extractLsb' 8 8) (x.extractLsb' 0 8) = x := by
  apply BitVec.eq_of_getLsbD_eq
  intro i hi
  simp only [join4, BitVec.getLsbD_append, BitVec.getLsbD_extractLsb']
  grind

theorem join2_octets (x : BitVec 16) : join2 (x.extractLsb' 8 8) (x.extractLsb' 0 8) = x := join2_extractLsb' x

@[simp] theorem octets2_join2 (a b : Octet) : octets2 (join2 a b) = [a, b] := by
  simp only [octets2, List.cons.injEq, and_true]
  refine ⟨?_, ?_⟩ <;>
  · apply BitVec.eq_of_getLsbD_eq
    intro i hi
    simp only [join2, BitVec.getLsbD_append, BitVec.getLsbD_extractLsb']
    grind

@[simp] theorem octets3_join3 (a b c : Octet) : octets3 (join3 a b c) = [a, b, c] := by
  simp only [octets3, List.cons.injEq, and_true]
  refine ⟨?_, ?_, ?_⟩ <;>
  · apply BitVec.eq_of_getLsbD_eq
    intro i hi
    simp only [join3, BitVec.getLsbD_append, BitVec.getLsbD_extractLsb']
    grind

@[simp] theorem octets4_join4 (a b c d : Octet) : octets4 (join4 a b c d) = [a, b, c, d] := by
  simp only [octets4, List.cons.injEq, and_true]
  refine ⟨?_, ?_, ?_, ?_⟩ <;>
  · apply BitVec.eq_of_getLsbD_eq
    intro i hi
    simp only [join4, BitVec.getLsbD_append, BitVec.getLsbD_extractLsb']
    grind

/-! ## One kind of request -/

/-- The decoder reads a kind's command `mk` from its bodies: `enc` lays out the fields, and the other bodies are of wrong length. -/
structure Reads {α : Type} (k : RequestKind) (mk : Body α → Instr) (lawful : α → Bool) (enc : α → List Octet) : Prop where
  decode : ∀ a, lawful a = true → commandOfBody k (enc a) = mk (.ok a)
  fits : ∀ l, k.bodyFits l = true → ∃ a, commandOfBody k l = mk (.ok a) ∧ enc a = l ∧ lawful a = true
  misfits : ∀ l, k.bodyFits l = false → commandOfBody k l = mk (.badLength l)
  frame : ∀ b, frameOf (mk b) = some ⟨k.code, b.octets enc⟩
  wellFormed : ∀ b, WellFormed (mk b) = b.wellFormed k lawful
  decides : ∃ d, ∀ b s, exec (mk b) s = .next (s.request (frameOf (mk b)) (decideBody k b d))

theorem length_of_fits {k : RequestKind} {l : List Octet} {n : Nat} (h : k.bodyFits l = (l.length == n)) (fits : k.bodyFits l = true) :
    l.length = n := by
  rwa [h, beq_iff_eq] at fits

theorem reads_admitCall : Reads .admitCall .admitCall (fun _ => true)
    (fun f => octets4 f.tag ++ [f.sector] ++ octets4 f.key ++ octets2 f.service ++ [f.accessClass, f.cause]) where
  decode := fun _ _ => by simp [commandOfBody, octets4, join4_octets, octets2, join2_octets]
  fits l fits := by
    match l, length_of_fits rfl fits with
    | [_, _, _, _, _, _, _, _, _, _, _, _, _], _ => exact ⟨_, rfl, by simp, rfl⟩
  misfits l misfits := by
    unfold commandOfBody
    dsimp only
    split
    · cases misfits
    · rfl
  frame _ := rfl
  wellFormed _ := rfl
  decides := ⟨_, fun _ _ => rfl⟩

theorem reads_release : Reads .release .release (fun _ => true)
    octets4 where
  decode := fun _ _ => by simp [commandOfBody, octets4, join4_octets]
  fits l fits := by
    match l, length_of_fits rfl fits with
    | [_, _, _, _], _ => exact ⟨_, rfl, by simp, rfl⟩
  misfits l misfits := by
    unfold commandOfBody
    dsimp only
    split
    · cases misfits
    · rfl
  frame _ := rfl
  wellFormed _ := rfl
  decides := ⟨_, fun _ _ => rfl⟩

theorem reads_cancel : Reads .cancel .cancel (fun _ => true)
    octets4 where
  decode := fun _ _ => by simp [commandOfBody, octets4, join4_octets]
  fits l fits := by
    match l, length_of_fits rfl fits with
    | [_, _, _, _], _ => exact ⟨_, rfl, by simp, rfl⟩
  misfits l misfits := by
    unfold commandOfBody
    dsimp only
    split
    · cases misfits
    · rfl
  frame _ := rfl
  wellFormed _ := rfl
  decides := ⟨_, fun _ _ => rfl⟩

theorem reads_sectorSet : Reads .sectorSet .sectorSet (fun _ => true)
    (fun f => [f.sector, f.capacity, f.generalGuard, f.priorityGuard, f.neighbourCount, f.neighbour1, f.neighbour2,
      f.neighbour3, f.weight, f.depth]) where
  decode := fun _ _ => rfl
  fits l fits := by
    match l, length_of_fits rfl fits with
    | [_, _, _, _, _, _, _, _, _, _], _ => exact ⟨_, rfl, rfl, rfl⟩
  misfits l misfits := by
    unfold commandOfBody
    dsimp only
    split
    · cases misfits
    · rfl
  frame _ := rfl
  wellFormed _ := rfl
  decides := ⟨_, fun _ _ => rfl⟩

theorem reads_sectorDrain : Reads .sectorDrain .sectorDrain (fun _ => true)
    (fun s => [s]) where
  decode := fun _ _ => rfl
  fits l fits := by
    match l, length_of_fits rfl fits with
    | [_], _ => exact ⟨_, rfl, rfl, rfl⟩
  misfits l misfits := by
    unfold commandOfBody
    dsimp only
    split
    · cases misfits
    · rfl
  frame _ := rfl
  wellFormed _ := rfl
  decides := ⟨_, fun _ _ => rfl⟩

theorem reads_sectorResume : Reads .sectorResume .sectorResume (fun _ => true)
    (fun s => [s]) where
  decode := fun _ _ => rfl
  fits l fits := by
    match l, length_of_fits rfl fits with
    | [_], _ => exact ⟨_, rfl, rfl, rfl⟩
  misfits l misfits := by
    unfold commandOfBody
    dsimp only
    split
    · cases misfits
    · rfl
  frame _ := rfl
  wellFormed _ := rfl
  decides := ⟨_, fun _ _ => rfl⟩

theorem reads_sectorDisable : Reads .sectorDisable .sectorDisable (fun _ => true)
    (fun s => [s]) where
  decode := fun _ _ => rfl
  fits l fits := by
    match l, length_of_fits rfl fits with
    | [_], _ => exact ⟨_, rfl, rfl, rfl⟩
  misfits l misfits := by
    unfold commandOfBody
    dsimp only
    split
    · cases misfits
    · rfl
  frame _ := rfl
  wellFormed _ := rfl
  decides := ⟨_, fun _ _ => rfl⟩

theorem reads_screenSet : Reads .screenSet .screenSet (fun _ => true)
    (fun f => [f.index, f.enabled] ++ octets3 f.matchValue ++ octets3 f.mask ++ [f.action, f.cls, f.preemptible, f.reason]) where
  decode := fun _ _ => by simp [commandOfBody, octets3, join3_octets]
  fits l fits := by
    match l, length_of_fits rfl fits with
    | [_, _, _, _, _, _, _, _, _, _, _, _], _ => exact ⟨_, rfl, by simp, rfl⟩
  misfits l misfits := by
    unfold commandOfBody
    dsimp only
    split
    · cases misfits
    · rfl
  frame _ := rfl
  wellFormed _ := rfl
  decides := ⟨_, fun _ _ => rfl⟩

theorem reads_screenHold : Reads .screenHold .screenHold (fun _ => true)
    (fun i => [i]) where
  decode := fun _ _ => rfl
  fits l fits := by
    match l, length_of_fits rfl fits with
    | [_], _ => exact ⟨_, rfl, rfl, rfl⟩
  misfits l misfits := by
    unfold commandOfBody
    dsimp only
    split
    · cases misfits
    · rfl
  frame _ := rfl
  wellFormed _ := rfl
  decides := ⟨_, fun _ _ => rfl⟩

theorem reads_screenFree : Reads .screenFree .screenFree (fun _ => true)
    (fun _ => []) where
  decode := fun _ _ => rfl
  fits l fits := by
    match l, length_of_fits rfl fits with
    | [], _ => exact ⟨_, rfl, rfl, rfl⟩
  misfits l misfits := by
    unfold commandOfBody
    dsimp only
    split
    · cases misfits
    · rfl
  frame _ := rfl
  wellFormed _ := rfl
  decides := ⟨_, fun _ _ => rfl⟩

theorem reads_levelSet : Reads .levelSet .levelSet (fun _ => true)
    (fun f => [f.level] ++ octets2 f.threshold ++ [f.refill, f.barPct] ++ octets2 f.barTime ++ octets2 f.base) where
  decode := fun _ _ => by simp [commandOfBody, octets2, join2_octets]
  fits l fits := by
    match l, length_of_fits rfl fits with
    | [_, _, _, _, _, _, _, _, _], _ => exact ⟨_, rfl, by simp, rfl⟩
  misfits l misfits := by
    unfold commandOfBody
    dsimp only
    split
    · cases misfits
    · rfl
  frame _ := rfl
  wellFormed _ := rfl
  decides := ⟨_, fun _ _ => rfl⟩

theorem reads_timerSet : Reads .timerSet .timerSet (fun _ => true)
    (fun f => [f.generalWait, f.priorityWait, f.emergencyWait, f.escalationTime] ++ octets2 f.vacateTimeout ++
      octets2 f.repeatWindow ++ octets2 f.jitter ++ [f.policy] ++ octets2 f.epochPeriod) where
  decode := fun _ _ => by simp [commandOfBody, octets2, join2_octets]
  fits l fits := by
    match l, length_of_fits rfl fits with
    | [_, _, _, _, _, _, _, _, _, _, _, _, _], _ => exact ⟨_, rfl, by simp, rfl⟩
  misfits l misfits := by
    unfold commandOfBody
    dsimp only
    split
    · cases misfits
    · rfl
  frame _ := rfl
  wellFormed _ := rfl
  decides := ⟨_, fun _ _ => rfl⟩

theorem reads_surgeOpen : Reads .surgeOpen .surgeOpen (fun _ => true)
    (fun f => octets2 f.duration ++ [f.floor]) where
  decode := fun _ _ => by simp [commandOfBody, octets2, join2_octets]
  fits l fits := by
    match l, length_of_fits rfl fits with
    | [_, _, _], _ => exact ⟨_, rfl, by simp, rfl⟩
  misfits l misfits := by
    unfold commandOfBody
    dsimp only
    split
    · cases misfits
    · rfl
  frame _ := rfl
  wellFormed _ := rfl
  decides := ⟨_, fun _ _ => rfl⟩

theorem reads_surgeExtend : Reads .surgeExtend .surgeExtend (fun _ => true)
    octets2 where
  decode := fun _ _ => by simp [commandOfBody, octets2, join2_octets]
  fits l fits := by
    match l, length_of_fits rfl fits with
    | [_, _], _ => exact ⟨_, rfl, by simp, rfl⟩
  misfits l misfits := by
    unfold commandOfBody
    dsimp only
    split
    · cases misfits
    · rfl
  frame _ := rfl
  wellFormed _ := rfl
  decides := ⟨_, fun _ _ => rfl⟩

theorem reads_surgeClose : Reads .surgeClose .surgeClose (fun _ => true)
    (fun _ => []) where
  decode := fun _ _ => rfl
  fits l fits := by
    match l, length_of_fits rfl fits with
    | [], _ => exact ⟨_, rfl, rfl, rfl⟩
  misfits l misfits := by
    unfold commandOfBody
    dsimp only
    split
    · cases misfits
    · rfl
  frame _ := rfl
  wellFormed _ := rfl
  decides := ⟨_, fun _ _ => rfl⟩

theorem reads_guardLock : Reads .guardLock .guardLock (fun _ => true)
    (fun _ => []) where
  decode := fun _ _ => rfl
  fits l fits := by
    match l, length_of_fits rfl fits with
    | [], _ => exact ⟨_, rfl, rfl, rfl⟩
  misfits l misfits := by
    unfold commandOfBody
    dsimp only
    split
    · cases misfits
    · rfl
  frame _ := rfl
  wellFormed _ := rfl
  decides := ⟨_, fun _ _ => rfl⟩

theorem reads_queryStatus : Reads .queryStatus .queryStatus (fun _ => true)
    (fun _ => []) where
  decode := fun _ _ => rfl
  fits l fits := by
    match l, length_of_fits rfl fits with
    | [], _ => exact ⟨_, rfl, rfl, rfl⟩
  misfits l misfits := by
    unfold commandOfBody
    dsimp only
    split
    · cases misfits
    · rfl
  frame _ := rfl
  wellFormed _ := rfl
  decides := ⟨_, fun _ _ => rfl⟩

theorem reads_querySector : Reads .querySector .querySector (fun _ => true)
    (fun s => [s]) where
  decode := fun _ _ => rfl
  fits l fits := by
    match l, length_of_fits rfl fits with
    | [_], _ => exact ⟨_, rfl, rfl, rfl⟩
  misfits l misfits := by
    unfold commandOfBody
    dsimp only
    split
    · cases misfits
    · rfl
  frame _ := rfl
  wellFormed _ := rfl
  decides := ⟨_, fun _ _ => rfl⟩

theorem reads_querySlots : Reads .querySlots .querySlots (fun _ => true)
    (fun f => [f.sector, f.firstSlot]) where
  decode := fun _ _ => rfl
  fits l fits := by
    match l, length_of_fits rfl fits with
    | [_, _], _ => exact ⟨_, rfl, rfl, rfl⟩
  misfits l misfits := by
    unfold commandOfBody
    dsimp only
    split
    · cases misfits
    · rfl
  frame _ := rfl
  wellFormed _ := rfl
  decides := ⟨_, fun _ _ => rfl⟩

theorem reads_queryList : Reads .queryList .queryList (fun _ => true)
    (fun f => [f.cls, f.start]) where
  decode := fun _ _ => rfl
  fits l fits := by
    match l, length_of_fits rfl fits with
    | [_, _], _ => exact ⟨_, rfl, rfl, rfl⟩
  misfits l misfits := by
    unfold commandOfBody
    dsimp only
    split
    · cases misfits
    · rfl
  frame _ := rfl
  wellFormed _ := rfl
  decides := ⟨_, fun _ _ => rfl⟩

theorem reads_queryScreen : Reads .queryScreen .queryScreen (fun _ => true)
    (fun i => [i]) where
  decode := fun _ _ => rfl
  fits l fits := by
    match l, length_of_fits rfl fits with
    | [_], _ => exact ⟨_, rfl, rfl, rfl⟩
  misfits l misfits := by
    unfold commandOfBody
    dsimp only
    split
    · cases misfits
    · rfl
  frame _ := rfl
  wellFormed _ := rfl
  decides := ⟨_, fun _ _ => rfl⟩

theorem reads_queryLevels : Reads .queryLevels .queryLevels (fun _ => true)
    (fun _ => []) where
  decode := fun _ _ => rfl
  fits l fits := by
    match l, length_of_fits rfl fits with
    | [], _ => exact ⟨_, rfl, rfl, rfl⟩
  misfits l misfits := by
    unfold commandOfBody
    dsimp only
    split
    · cases misfits
    · rfl
  frame _ := rfl
  wellFormed _ := rfl
  decides := ⟨_, fun _ _ => rfl⟩

theorem reads_restart : Reads .restart .restart (fun _ => true)
    (fun _ => []) where
  decode := fun _ _ => rfl
  fits l fits := by
    match l, length_of_fits rfl fits with
    | [], _ => exact ⟨_, rfl, rfl, rfl⟩
  misfits l misfits := by
    unfold commandOfBody
    dsimp only
    split
    · cases misfits
    · rfl
  frame _ := rfl
  wellFormed _ := rfl
  decides := ⟨_, fun _ _ => rfl⟩

/-! ## AUDIT, whose body length goes by its pair count -/

theorem auditPairs_flatMap (ps : List AuditPair) : auditPairs (ps.flatMap auditPairOctets) = some ps := by
  induction ps with
  | nil => rfl
  | cons p rest ih =>
    simp only [List.flatMap_cons, auditPairOctets, octets4, List.cons_append, List.nil_append, auditPairs, ih, join4_octets,
      Option.map_some]

/-- Five octets for each pair are read as the pairs that they lay out. -/
theorem auditPairs_of_length (n : Nat) (l : List Octet) (length : l.length = 5 * n) :
    ∃ ps, auditPairs l = some ps ∧ ps.length = n ∧ ps.flatMap auditPairOctets = l := by
  induction n generalizing l with
  | zero =>
    obtain rfl := List.eq_nil_of_length_eq_zero length
    exact ⟨[], rfl, rfl, rfl⟩
  | succ n ih =>
    match l, length with
    | slot :: a :: b :: c :: d :: rest, length =>
      obtain ⟨ps, read, count, octets⟩ := ih rest (by simpa [Nat.mul_succ] using length)
      refine ⟨⟨slot, join4 a b c d⟩ :: ps, by rw [auditPairs, read]; rfl, by rw [List.length_cons, count], ?_⟩
      simp [auditPairOctets, octets]

/-- The fields of an AUDIT whose pair count an octet of its kind admits. -/
def auditLawful (f : AuditFields) : Bool := decide (1 ≤ f.pairs.length) && decide (f.pairs.length ≤ 12)

theorem octet_toNat {n : Nat} (small : n < 256) : (octet n).toNat = n := by
  simpa [octet] using small

theorem octet_of_toNat (o : Octet) : octet o.toNat = o := by
  simp [octet]

theorem reads_audit : Reads .audit .audit auditLawful
    (fun f => [f.sector, octet f.pairs.length] ++ f.pairs.flatMap auditPairOctets) where
  decode f lawful := by
    obtain ⟨some_pair, few⟩ : 1 ≤ f.pairs.length ∧ f.pairs.length ≤ 12 := by simpa [auditLawful] using lawful
    have count := octet_toNat (n := f.pairs.length) (by omega)
    simp only [commandOfBody, List.cons_append, List.nil_append, count, Laws.auditPairOctets_length, auditPairs_flatMap]
    rw [if_pos ⟨some_pair, few, trivial⟩]
  fits l fits := by
    match l, fits with
    | sector :: count :: rest, fits =>
      have admitted : 1 ≤ count.toNat ∧ count.toNat ≤ 12 ∧ rest.length = 5 * count.toNat := by
        simpa [RequestKind.bodyFits] using fits
      obtain ⟨ps, read, length, octets⟩ := auditPairs_of_length count.toNat rest admitted.2.2
      refine ⟨⟨sector, ps⟩, ?_, ?_, by simp [auditLawful, length, admitted]⟩
      · simp only [commandOfBody, if_pos admitted, read]
      · simp [length, octets, octet_of_toNat]
  misfits l misfits := by
    unfold commandOfBody
    dsimp only
    split
    next sector count rest =>
      have refused : ¬(1 ≤ count.toNat ∧ count.toNat ≤ 12 ∧ rest.length = 5 * count.toNat) := by
        simpa [RequestKind.bodyFits] using misfits
      rw [if_neg refused]
    next => rfl
  frame _ := rfl
  wellFormed _ := rfl
  decides := ⟨_, fun _ _ => rfl⟩

/-! ## Every kind of request -/

/-- Some command is read from the bodies of each kind. -/
theorem RequestKind.reads (k : RequestKind) :
    ∃ (α : Type) (mk : Body α → Instr) (lawful : α → Bool) (enc : α → List Octet), Reads k mk lawful enc := by
  cases k
  exacts [⟨_, _, _, _, reads_admitCall⟩, ⟨_, _, _, _, reads_release⟩, ⟨_, _, _, _, reads_cancel⟩, ⟨_, _, _, _, reads_sectorSet⟩,
    ⟨_, _, _, _, reads_sectorDrain⟩, ⟨_, _, _, _, reads_sectorResume⟩, ⟨_, _, _, _, reads_sectorDisable⟩,
    ⟨_, _, _, _, reads_screenSet⟩, ⟨_, _, _, _, reads_screenHold⟩, ⟨_, _, _, _, reads_screenFree⟩, ⟨_, _, _, _, reads_levelSet⟩,
    ⟨_, _, _, _, reads_timerSet⟩, ⟨_, _, _, _, reads_surgeOpen⟩, ⟨_, _, _, _, reads_surgeExtend⟩, ⟨_, _, _, _, reads_surgeClose⟩,
    ⟨_, _, _, _, reads_guardLock⟩, ⟨_, _, _, _, reads_audit⟩, ⟨_, _, _, _, reads_queryStatus⟩, ⟨_, _, _, _, reads_querySector⟩,
    ⟨_, _, _, _, reads_querySlots⟩, ⟨_, _, _, _, reads_queryList⟩, ⟨_, _, _, _, reads_queryScreen⟩, ⟨_, _, _, _, reads_queryLevels⟩,
    ⟨_, _, _, _, reads_restart⟩]

section
variable {α : Type} {k : RequestKind} {mk : Body α → Instr} {lawful : α → Bool} {enc : α → List Octet} (reads : Reads k mk lawful enc)
include reads

/-- The decoder gives the command back from its frame. -/
theorem Reads.decode_frame {b : Body α} {f : Frame} (wellFormed : WellFormed (mk b) = true) (frame : frameOf (mk b) = some f) :
    commandOfFrame f = mk b := by
  rw [reads.frame] at frame
  obtain rfl := Option.some.inj frame
  rw [reads.wellFormed] at wellFormed
  rw [commandOfFrame, RequestKind.ofCode_code]
  cases b with
  | ok a => exact reads.decode a wellFormed
  | badLength l =>
    have admitted : l.length ≤ 247 ∧ k.bodyFits l = false := by simpa [Body.wellFormed] using wellFormed
    exact reads.misfits l admitted.2

/-- A body stands for a well-formed command with that body. -/
theorem Reads.frame_decode {l : List Octet} (short : l.length ≤ 247) :
    WellFormed (commandOfBody k l) = true ∧ frameOf (commandOfBody k l) = some ⟨k.code, l⟩ := by
  cases fits : k.bodyFits l with
  | true =>
    obtain ⟨a, decoded, rfl, holds⟩ := reads.fits l fits
    rw [decoded, reads.wellFormed, reads.frame]
    exact ⟨holds, rfl⟩
  | false =>
    rw [reads.misfits l fits, reads.wellFormed, reads.frame]
    exact ⟨by simp [Body.wellFormed, short, fits], rfl⟩

/-- A body of wrong length is rejected. -/
theorem Reads.reject_misfit {f : Frame} {s : State} (kind : k.code = f.kind) (misfits : k.bodyFits f.body = false)
    (takes : s.TakesFrame f) :
    exec (commandOfBody k f.body) s = .next (s.afterTaking.pushReply (.reject (some k) .badLength 0 0)) := by
  obtain ⟨d, decides⟩ := reads.decides
  rw [reads.misfits _ misfits, decides, reads.frame, Body.octets, kind, State.request_takes takes]
  rfl

end

theorem RequestKind.code_of_ofCode {o : Octet} {k : RequestKind} (known : RequestKind.ofCode o = some k) : k.code = o := by
  simpa using List.find?_some known

end Sys2Proof.Machine
end

section
/-! PROOFS. The frames of the requests and their decoding (10.4, 10.6, R173, R181, R182). -/

namespace Sys2Proof.Machine

/-! ## Fields as numbers -/

theorem octets2_eq (x : BitVec 16) : octets2 x = [BitVec.ofNat 8 (x.toNat / 256), BitVec.ofNat 8 x.toNat] := by
  simp [octets2, BitVec.extractLsb', Nat.shiftRight_eq_div_pow]

theorem octets3_eq (x : BitVec 24) :
    octets3 x = [BitVec.ofNat 8 (x.toNat / 65536), BitVec.ofNat 8 (x.toNat / 256), BitVec.ofNat 8 x.toNat] := by
  simp [octets3, BitVec.extractLsb', Nat.shiftRight_eq_div_pow]

theorem octets4_eq (x : BitVec 32) :
    octets4 x = [BitVec.ofNat 8 (x.toNat / 16777216), BitVec.ofNat 8 (x.toNat / 65536), BitVec.ofNat 8 (x.toNat / 256),
      BitVec.ofNat 8 x.toNat] := by
  simp [octets4, BitVec.extractLsb', Nat.shiftRight_eq_div_pow]

/-! ## The lengths of a kind's bodies -/

theorem RequestKind.ofCode_eq_some {o : Octet} {k : RequestKind} : RequestKind.ofCode o = some k ↔ o = k.code := by
  constructor
  · exact fun known => (RequestKind.code_of_ofCode known).symm
  · rintro rfl
    exact RequestKind.ofCode_code k

/-- An AUDIT body fits when its pair count, 1 to 12, is that of the pairs that follow. -/
theorem auditFits_iff (body : List Octet) :
    RequestKind.bodyFits .audit body = true ↔
      body.length ∈ [7, 12, 17, 22, 27, 32, 37, 42, 47, 52, 57, 62] ∧
        ∃ p, body[1]? = some (BitVec.ofNat 8 p) ∧ p ≤ 12 ∧ body.length = 2 + 5 * p := by
  match body with
  | [] => simp [RequestKind.bodyFits]
  | [_] => simp [RequestKind.bodyFits]
  | _ :: count :: rest =>
    simp only [RequestKind.bodyFits, decide_eq_true_eq, List.length_cons, List.getElem?_cons_succ, List.getElem?_cons_zero,
      Option.some.injEq, List.mem_cons, List.not_mem_nil, or_false]
    constructor
    · rintro ⟨some_pair, few, length⟩
      exact ⟨by omega, count.toNat, (octet_of_toNat count).symm, few, by omega⟩
    · rintro ⟨listed, p, rfl, few, length⟩
      have same : (BitVec.ofNat 8 p).toNat = p := octet_toNat (n := p) (by omega)
      rw [same]
      omega

/-! ## The statements -/

/-- Settles O6: the codes and lengths kind by kind, the layouts command by command, and each kind's codec read backwards. -/
theorem requestFramesDecodeBack : Obligations.RequestFramesDecodeBack := by
  refine ⟨fun o k => ?codes, fun k body => ?lengths, fun i => ?layouts, fun i f lawful frame => ?decodes⟩
  case codes =>
    rw [RequestKind.ofCode_eq_some]
    cases k <;> rfl
  case lengths =>
    by_cases audit : k = .audit
    · subst audit
      simpa using auditFits_iff body
    · cases k <;> simp [RequestKind.bodyFits] at audit ⊢
  case layouts =>
    cases i with
    | admitCall b | release b | cancel b | screenSet b | levelSet b | timerSet b | surgeOpen b | surgeExtend b =>
      cases b <;> simp only [frameOf, Body.octets, octets2_eq, octets3_eq, octets4_eq] <;> rfl
    | audit b =>
      cases b with
      | ok f =>
        have pairs : auditPairOctets = fun p => p.slot :: octets4 p.tag := rfl
        simp only [frameOf, Body.octets, pairs, octets4_eq]
        rfl
      | badLength l => rfl
    | sectorSet b | sectorDrain b | sectorResume b | sectorDisable b | screenHold b | screenFree b | surgeClose b | guardLock b
    | queryStatus b | querySector b | querySlots b | queryList b | queryScreen b | queryLevels b | restart b => cases b <;> rfl
    | _ => rfl
  case decodes =>
    cases i with
    | admitCall b => exact reads_admitCall.decode_frame lawful frame
    | release b => exact reads_release.decode_frame lawful frame
    | cancel b => exact reads_cancel.decode_frame lawful frame
    | sectorSet b => exact reads_sectorSet.decode_frame lawful frame
    | sectorDrain b => exact reads_sectorDrain.decode_frame lawful frame
    | sectorResume b => exact reads_sectorResume.decode_frame lawful frame
    | sectorDisable b => exact reads_sectorDisable.decode_frame lawful frame
    | screenSet b => exact reads_screenSet.decode_frame lawful frame
    | screenHold b => exact reads_screenHold.decode_frame lawful frame
    | screenFree b => exact reads_screenFree.decode_frame lawful frame
    | levelSet b => exact reads_levelSet.decode_frame lawful frame
    | timerSet b => exact reads_timerSet.decode_frame lawful frame
    | surgeOpen b => exact reads_surgeOpen.decode_frame lawful frame
    | surgeExtend b => exact reads_surgeExtend.decode_frame lawful frame
    | surgeClose b => exact reads_surgeClose.decode_frame lawful frame
    | guardLock b => exact reads_guardLock.decode_frame lawful frame
    | audit b => exact reads_audit.decode_frame lawful frame
    | queryStatus b => exact reads_queryStatus.decode_frame lawful frame
    | querySector b => exact reads_querySector.decode_frame lawful frame
    | querySlots b => exact reads_querySlots.decode_frame lawful frame
    | queryList b => exact reads_queryList.decode_frame lawful frame
    | queryScreen b => exact reads_queryScreen.decode_frame lawful frame
    | queryLevels b => exact reads_queryLevels.decode_frame lawful frame
    | restart b => exact reads_restart.decode_frame lawful frame
    | unknownKind kind body =>
      obtain rfl := Option.some.inj frame
      have unknown : RequestKind.ofCode kind = none ∧ body.length ≤ 247 := by simpa [WellFormed] using lawful
      rw [commandOfFrame, unknown.1]
    | _ => cases frame

/-- Settles O7: a body of a known kind stands for a command with that body, and an unknown kind for the frame as it came. -/
theorem everyFrameStandsForOneCommand : Obligations.EveryFrameStandsForOneCommand := by
  intro f short
  rw [commandOfFrame]
  cases known : RequestKind.ofCode f.kind with
  | some k =>
    obtain ⟨α, mk, lawful, enc, reads⟩ := RequestKind.reads k
    have decoded := reads.frame_decode short
    rwa [RequestKind.code_of_ofCode known] at decoded
  | none => exact ⟨by simp [WellFormed, known, short], rfl⟩

/-- Settles O46: the frame of an unknown kind by its command, a body of wrong length by its kind's codec. -/
theorem unknownKindAndBadLength : Obligations.UnknownKindAndBadLength := by
  refine fun s => ⟨fun kind body _ takes => exec_unknownKind_takes takes, fun f k known misfits takes => ?_⟩
  obtain ⟨α, mk, lawful, enc, reads⟩ := RequestKind.reads k
  rw [commandOfFrame, known]
  exact reads.reject_misfit (RequestKind.code_of_ofCode known) misfits takes

end Sys2Proof.Machine
end

section
/-! PROOFS. The step and its queue, an arriving request, SCREEN-HOLD, the two ends of a reset, and the laws of the reset state (R35,
R36, R170, R180, R198). -/

namespace Sys2Proof.Machine

variable {s : State}

/-- Settles O1. -/
theorem stepTakesTheFrontCommand : Obligations.StepTakesTheFrontCommand := by
  intro s c rest front
  rw [step, front]

/-- Settles O5: a frame that is not taken from the head is taken at once, joins the queue, or is counted in OVERRUN. -/
theorem requestNotAtTheHeadArrives : Obligations.RequestNotAtTheHeadArrives := by
  intro s i f frame running
  obtain ⟨d, runs⟩ := exec_request frame
  refine ⟨fun arrival => ?_, fun absent later => ⟨s.arrive f, ?_, ?_, ?_⟩⟩
  · have head : ({ s with link := { s.link with noiseRun := 0, requestQueue := [f] } } : State).TakesFrame f :=
      ⟨running, arrival.2.1, rfl⟩
    rw [runs, runs, State.request_takes head, State.request_takesOnArrival arrival, State.afterTaking]
    simp [← arrival.2.2]
  · rw [runs, State.request_waits running later absent]
  · rfl
  · rw [State.rhold, decide_eq_true_iff, Config.rholdFrames]
    obtain ⟨room, joined⟩ | ⟨full, lost⟩ := s.arrive_cases f
    · rw [joined, List.length_append, List.length_singleton]
      omega
    · rw [lost]
      exact iff_of_true (by dsimp only; omega) (by omega)

/-! ## SCREEN-HOLD (R32, R35, R36) -/

theorem indexFault_eq (o : Octet) : indexFault o = if 31 < o.toNat then some 1 else none := by
  by_cases range : 31 < o.toNat
  · simp [indexFault, fieldFault, range]
  · simp [indexFault, fieldFault, range, Nat.not_lt.mp range]

/-- With no hold open the lock is on an enabled entry whose stored action assigns EMERGENCY (R35). -/
theorem State.screenLocked_of_no_hold {i : ScreenIndex} (open_hold : s.screening.hold = none)
    (enabled : (s.screenEntry i).content.enabled = true) :
    s.screenLocked i = true ↔ s.guardLock = true ∧ (s.screenEntry i).content.action.assignsEmergency = true := by
  simp [State.screenLocked_iff, State.heldCopy, open_hold, enabled]

/-- Settles O33: the checks in their order, then the hold with the entry as it stands. -/
theorem screenHold : Obligations.ScreenHold := by
  intro s o takes i c rejected
  have answer := exec_screenHold_takes takes
  rw [decideBody, decideScreenHold, indexFault_eq] at answer
  refine ite_prop_iff_and.mpr ⟨fun above => ?_, fun within => ?_⟩
  · rw [if_pos above] at answer
    exact answer
  rw [if_neg within] at answer
  refine ite_prop_iff_and.mpr ⟨fun held => ?_, fun free => ?_⟩
  · exact answer.trans (congrArg _ (if_pos (Option.isSome_iff_ne_none.mpr held)))
  have no_hold : s.screening.hold = none := not_not.mp free
  replace answer := answer.trans (congrArg _ (if_neg (mt Option.isSome_iff_ne_none.mp free)))
  refine ite_prop_iff_and.mpr ⟨fun disabled => ?_, fun not_disabled => ?_⟩
  · exact answer.trans (congrArg _ (if_pos (ne_true_of_eq_false disabled)))
  have enabled : c.enabled = true := eq_true_of_ne_false not_disabled
  replace answer := answer.trans (congrArg _ (if_neg (not_not.mpr enabled)))
  have lock := State.screenLocked_of_no_hold (s := s.afterTaking) (i := i) no_hold enabled
  refine ite_prop_iff_and.mpr ⟨fun locked => ?_, fun unlocked => ?_⟩
  · exact answer.trans (congrArg _ (if_pos (lock.mpr locked)))
  · exact answer.trans (congrArg _ (if_neg (mt lock.mp unlocked)))

/-! ## Resets (R198) -/

/-- Settles O47: power-on reset writes the constants of the power-on state, and the end of a reset the fields that it samples. -/
theorem powerOnReset : Obligations.PowerOnReset := by
  intro s b1 b0
  have rate : rateOf b1 b0 =
      if b1 then (if b0 then .r3686400 else .r1843200) else (if b0 then .r921600 else .r460800) := by
    cases b1 <;> cases b0 <;> rfl
  refine ⟨{ State.powerOn with pending := s.pending, choices := s.choices }, rfl, rfl, rfl, rfl, fun t => ?_, fun t n => ?_,
    fun i => ?_, rfl, rfl, rfl, rfl, rfl, rfl, rfl, rfl, rfl, rfl, rfl, rfl, rfl, rfl, rfl, rfl, rfl, rfl, rfl, rfl, rfl,
    rfl, rfl, rfl, rfl, rfl, rfl, rfl, rfl, rfl, rfl, rfl, rfl, ?_, fun held => ?_⟩
  · exact Table.get_replicate _ _
  · exact powerOn_slot t n
  · exact Table.get_replicate _ _
  · rw [← rate]
    rfl
  · rw [← rate]
    exact congrArg Host.Outcome.next (if_pos held)

/-! ## The reset state -/

theorem reset_screenLawful : State.reset.ScreenLawful := by
  have entry : ∀ i, State.reset.screenEntry i = ScreenEntry.powerOn := fun i => Table.get_replicate _ i
  constructor
  · intro i
    rw [entry]
    rfl
  · intro i r barred
    rw [entry] at barred
    cases barred
  · nofun

/-- Settles O54: the laws that the power-on values meet do not read the reset flag. -/
theorem resetMeetsTheLaws : Obligations.ResetMeetsTheLaws := by
  refine ⟨{ powerOn_inBounds with }, ?_, powerOn_inRange.congr rfl rfl rfl, powerOn_slotsLawful.of_same rfl rfl,
    powerOn_recordsPaired.of_same rfl rfl rfl rfl, reset_screenLawful, nofun, powerOn_onTime.congr rfl rfl rfl rfl⟩
  exact (State.lanesLawful_iff _).mpr ⟨nofun, .nil⟩

end Sys2Proof.Machine
end

section
/-! PROOFS. The part with no command waiting: which events are due, which may be taken, and what a millisecond moves (log 2, log 3,
R76, R153, R154, R156, R161, R166, R176, R181). -/

namespace Sys2Proof.Machine

variable {s : State} {c : Instr}

/-! ## The events listed -/

theorem State.mem_waitingEvents {p : Waiting → Bool} :
    c ∈ s.waitingEvents p ↔ ∃ e ∈ s.emergency ++ s.priority ++ s.general, p e = true ∧ c = .waitingExpiry e.tag := by
  simp only [State.waitingEvents, State.allWaiting, List.mem_map, List.mem_filter, and_assoc]
  exact exists_congr fun e => and_congr_right fun _ => and_congr_right fun _ => eq_comm

theorem State.mem_escalationEvents {p : Time → Bool} :
    c ∈ s.escalationEvents p ↔
      ∃ e ∈ s.emergency, ∃ point, e.escalationPoint = some point ∧ p point = true ∧ c = .escalation e.tag := by
  simp only [State.escalationEvents, List.mem_map, List.mem_filter, and_assoc]
  refine exists_congr fun e => and_congr_right fun _ => ?_
  cases e.escalationPoint with
  | none => simp
  | some point => simpa using fun _ => eq_comm

theorem State.mem_vacateEvents {p : Vacate → Bool} :
    c ∈ s.vacateEvents p ↔ ∃ t n d v, s.slot t n = .vacating d v ∧ p v = true ∧ c = .vacateExpiry t n := by
  simp only [State.vacateEvents, List.mem_map, List.mem_filter]
  constructor
  · rintro ⟨⟨t, n⟩, ⟨-, test⟩, rfl⟩
    cases slot : s.slot t n with
    | vacating d v => exact ⟨t, n, d, v, slot, by simpa [slot, Slot.vacateTest] using test, rfl⟩
    | _ => simp [slot, Slot.vacateTest] at test
  · rintro ⟨t, n, d, v, slot, test, rfl⟩
    exact ⟨(t, n), ⟨mem_allPlaces t n, by rwa [slot]⟩, rfl⟩

/-- The sweep's events by the lateness of their deadlines, where the test reads the lateness alone. -/
theorem State.mem_sweepEvents {late : Time → Bool} {p : Int → Prop}
    (test : ∀ d, late d = true ↔ p (signedDiff s.localTime d)) :
    c ∈ s.sweepEvents late ↔
      (∃ e ∈ s.emergency ++ s.priority ++ s.general,
        (e.watch = .watched ∧ p (signedDiff s.localTime e.deadline)) ∧ c = .waitingExpiry e.tag) ∨
      (∃ e ∈ s.emergency, ∃ point, e.escalationPoint = some point ∧ p (signedDiff s.localTime point) ∧ c = .escalation e.tag) ∨
      ∃ t n d v, s.slot t n = .vacating d v ∧ (v.watch = .watched ∧ p (signedDiff s.localTime v.deadline)) ∧
        c = .vacateExpiry t n := by
  simp only [State.sweepEvents, List.mem_append, State.mem_waitingEvents, State.mem_escalationEvents, State.mem_vacateEvents,
    Bool.and_eq_true, decide_eq_true_eq, test, or_assoc]

theorem State.mem_signalEvents : c ∈ s.signalEvents ↔
    (s.retrySignal = true ∧ c = .deferredServiceRetry) ∨ (s.passSignal = true ∧ s.retrySignal = false ∧ c = .deferredPass) ∨
      (∃ e ∈ s.emergency ++ s.priority ++ s.general, e.watch = .signalled ∧ c = .waitingExpiry e.tag) ∨
      ∃ t n d v, s.slot t n = .vacating d v ∧ v.watch = .signalled ∧ c = .vacateExpiry t n := by
  simp only [State.signalEvents, List.mem_append, mem_eventIf, State.mem_waitingEvents, State.mem_vacateEvents,
    Watch.isSignalled, decide_eq_true_eq, Bool.and_eq_true, Bool.not_eq_true', or_assoc, and_assoc]

theorem State.mem_boundaryEvents : c ∈ s.boundaryEvents ↔
    (s.link.sending = none ∧ s.link.thold = false ∧
      ¬(s.link.actionLane = [] ∧ s.link.replyQueue = [] ∧ s.link.statusLane = [])) ∧ c = .frameBoundary := by
  simp only [State.boundaryEvents, mem_eventIf, Bool.and_eq_true, Option.isNone_iff_eq_none, Bool.not_eq_true',
    Bool.and_eq_false_iff, List.isEmpty_eq_false_iff, not_and_or, and_assoc, or_assoc, ne_eq]

theorem State.mem_timerEvents : c ∈ s.timerEvents ↔
    (0 ≤ signedDiff s.localTime s.governor.nextBoundary ∧ c = .epochBoundary) ∨
      ∃ w, s.governor.surge = some w ∧
        (w.noticeDue = true ∧ 0 ≤ signedDiff s.localTime (w.close - 10000) ∧ c = .closingPoint ∨
          0 ≤ signedDiff s.localTime w.close ∧ c = .surgeExpiry) := by
  have point : ∀ w : Surge, closingPointOf w = w.close - 10000 := fun _ => rfl
  cases window : s.governor.surge with
  | none => simp [State.timerEvents, window, mem_eventIf, reached]
  | some w => simp [State.timerEvents, window, mem_eventIf, reached, closingReached, point, and_assoc]

theorem State.mem_decoderEvents : c ∈ s.decoderEvents ↔
    ∃ f rest, s.link.requestQueue = f :: rest ∧ s.link.replyQueue.length < 8 ∧ c = commandOfFrame f := by
  cases queue : s.link.requestQueue with
  | nil => simp [State.decoderEvents, queue]
  | cons f rest => simp [State.decoderEvents, queue, mem_eventIf, State.replyRoom, Config.replyPlaces]

theorem State.mem_frameEndEvents {extra : Nat} : c ∈ s.frameEndEvents extra ↔
    ∃ d, s.link.sending = some d ∧ 10 * d.octets.length * 1000 ≤ (d.elapsed + extra) * s.link.rate.bps ∧ c = .frameEnd := by
  cases sending : s.link.sending with
  | none => simp [State.frameEndEvents, sending]
  | some d => simp [State.frameEndEvents, sending, mem_eventIf, LinkPort.sentAfter]

theorem State.mem_gapEvents : c ∈ s.gapEvents ↔ s.link.receiver ≠ .hunt ∧ 1 ≤ s.link.gapTicks ∧ c = .gapTimeout := by
  simp only [State.gapEvents, mem_eventIf, Bool.and_eq_true, decide_eq_true_eq, and_assoc]

theorem State.frameEndEvents_eq_nil {extra : Nat} : s.frameEndEvents extra = [] ↔
    ∀ d, s.link.sending = some d → ¬10 * d.octets.length * 1000 ≤ (d.elapsed + extra) * s.link.rate.bps := by
  cases sending : s.link.sending with
  | none => simp [State.frameEndEvents, sending]
  | some d => simp [State.frameEndEvents, sending, eventIf_eq_nil, LinkPort.sentAfter]

theorem overdue_iff (now deadline : Time) : overdue deadline now = true ↔ 10 ≤ signedDiff now deadline := by
  simp [overdue, Config.sweepLateness]

theorem reached_not_overdue_iff (now deadline : Time) :
    (reached deadline now && !overdue deadline now) = true ↔ 0 ≤ signedDiff now deadline ∧ signedDiff now deadline < 10 := by
  simp [overdue, reached, Config.sweepLateness]

/-- Either place of an alternative of seven, the fifth moved to the front (the order of the statement). -/
theorem seven_reordered (a b c d e f g : Prop) : ((((((a ∨ b) ∨ c) ∨ d) ∨ e) ∨ f) ∨ g) ↔ a ∨ e ∨ b ∨ c ∨ d ∨ f ∨ g := by
  tauto

theorem State.mem_dueEvents : c ∈ s.dueEvents ↔ c ∈ s.signalEvents ∨ c ∈ s.boundaryEvents ∨ c ∈ s.timerEvents ∨
    c ∈ s.sweepEvents (fun d => overdue d s.localTime) ∨ c ∈ s.decoderEvents ∨ c ∈ s.frameEndEvents 0 ∨ c ∈ s.gapEvents := by
  simp only [State.dueEvents, List.mem_append]
  exact seven_reordered _ _ _ _ _ _ _

theorem State.mem_freeEvents : c ∈ s.freeEvents ↔
    c ∈ s.sweepEvents (fun d => reached d s.localTime && !overdue d s.localTime) ∨
      ∃ d, s.link.sending = some d ∧ ¬10 * d.octets.length * 1000 ≤ d.elapsed * s.link.rate.bps ∧
        10 * d.octets.length * 1000 ≤ (d.elapsed + 1) * s.link.rate.bps ∧ c = .frameEnd := by
  rw [State.freeEvents, List.mem_append]
  refine or_congr_right ?_
  split
  next unsent =>
    rw [State.frameEndEvents_eq_nil] at unsent
    rw [State.mem_frameEndEvents]
    exact exists_congr fun d => and_congr_right fun sending => (and_iff_right (unsent d sending)).symm
  next sent =>
    refine iff_of_false List.not_mem_nil ?_
    rintro ⟨d, sending, early, -⟩
    refine sent (State.frameEndEvents_eq_nil.mpr fun e transmitted => ?_)
    obtain rfl : d = e := Option.some.inj (sending.symm.trans transmitted)
    exact early

/-! ## The statement -/

theorem State.boundaryEvents_of_ne_nil (begins : s.boundaryEvents ≠ []) : s.boundaryEvents = [.frameBoundary] := by
  unfold State.boundaryEvents eventIf at begins ⊢
  split
  next => rfl
  next none_begins =>
    rw [if_neg none_begins] at begins
    exact absurd rfl begins

/-- Settles O2: the options by their definition, a millisecond field by field, and the events by membership in their lists. -/
theorem idlePartGoesOnByItself : Obligations.IdlePartGoesOnByItself := by
  intro s
  refine ⟨fun empty => ?options, fun _ => rfl, ⟨s.tick, rfl, ?clock, ?tick⟩, ?events⟩
  case options =>
    have idle : step s = s.idle := by rw [step, empty]
    rw [idle]
    refine ⟨fun held => by rw [State.idle, if_pos held], fun running =>
      ⟨State.idle_takes running, State.none_mem_idleOptions, fun answers => if_pos answers, fun quiet begins => ?_,
        fun quiet still c => ?_⟩⟩
    · rw [State.idleOptions, if_neg (not_not.mpr quiet), if_pos begins, State.boundaryEvents_of_ne_nil begins]
      rfl
    · rw [State.idleOptions, if_neg (not_not.mpr quiet), if_neg (not_not.mpr still)]
      simp
  case clock => simp [State.tick, BitVec.toNat_add]
  case tick =>
    rw [State.tick]
    cases s.link.sending <;> rfl
  case events =>
    intro waits vacates sweeps answers boundary bitsPerSecond sentWithin
    have boundary_iff : s.boundaryEvents ≠ [] ↔ boundary := by
      rw [ne_eq, List.eq_nil_iff_forall_not_mem, not_forall_not]
      simp [State.mem_boundaryEvents, boundary]
    refine ⟨fun c => State.mem_signalEvents, boundary_iff, fun c => ?_, fun c => ?_⟩
    · have sweep := State.mem_sweepEvents (c := c) (p := fun late => 10 ≤ late) (overdue_iff s.localTime)
      refine State.mem_dueEvents.trans (or_congr State.mem_signalEvents (or_congr State.mem_boundaryEvents ?_))
      refine (or_congr State.mem_timerEvents ?_).trans or_assoc
      exact or_congr sweep (or_congr State.mem_decoderEvents (or_congr State.mem_frameEndEvents State.mem_gapEvents))
    · rw [State.mem_freeEvents, State.mem_sweepEvents (p := fun late => 0 ≤ late ∧ late < 10) (reached_not_overdue_iff s.localTime)]
      exact .rfl

end Sys2Proof.Machine
end

section
/-! PROOFS. The checks of SECTOR-SET (R9, R10, R185) and the outcome of a vote (R120 to R122, R133). -/

namespace Sys2Proof.Machine

variable {s : State} {f : SectorSetFields}

/-! ## SECTOR-SET: the first check that fails -/

theorem sectorSetRange_fault (f : SectorSetFields) :
    let k := f.neighbourCount.toNat
    fieldFault (sectorSetRange f) =
      if 15 < f.sector.toNat then some 1
      else if 24 < f.capacity.toNat then some 2
      else if 24 < f.generalGuard.toNat then some 3
      else if 24 < f.priorityGuard.toNat then some 4
      else if 3 < k then some 5
      else if 1 ≤ k ∧ 15 < f.neighbour1.toNat then some 6
      else if 2 ≤ k ∧ 15 < f.neighbour2.toNat then some 7
      else if 3 ≤ k ∧ 15 < f.neighbour3.toNat then some 8
      else if f.weight.toNat = 0 ∨ 16 < f.weight.toNat then some 9
      else if f.depth.toNat = 0 then some 10
      else none := by
  refine fieldFault_cons ?_ (fieldFault_cons ?_ (fieldFault_cons ?_ (fieldFault_cons ?_ (fieldFault_cons ?_ (fieldFault_cons ?_
    (fieldFault_cons ?_ (fieldFault_cons ?_ (fieldFault_cons ?_ (fieldFault_cons ?_ rfl))))))))) <;>
  · rw [decide_eq_false_iff_not]
    omega

theorem sectorSetConsistency_fault (f : SectorSetFields) :
    let k := f.neighbourCount.toNat
    fieldFault (sectorSetConsistency f) =
      if f.generalGuard.toNat < f.priorityGuard.toNat then some 4
      else if 1 ≤ k ∧ f.neighbour1 = f.sector then some 6
      else if 2 ≤ k ∧ (f.neighbour2 = f.sector ∨ f.neighbour2 = f.neighbour1) then some 7
      else if 3 ≤ k ∧ (f.neighbour3 = f.sector ∨ f.neighbour3 = f.neighbour1 ∨ f.neighbour3 = f.neighbour2) then some 8
      else none := by
  refine fieldFault_cons ?_ (fieldFault_cons ?_ (fieldFault_cons ?_ (fieldFault_cons ?_ rfl))) <;>
  · rw [decide_eq_false_iff_not]
    simp only [not_or, not_and_or, not_lt, not_le, not_not, ne_eq]

/-- The first check of a SECTOR-SET that fails, with its reject code and field. -/
def State.sectorSetFailure (s : State) (f : SectorSetFields) : Option (RejectCode × Octet) :=
  (fieldFault (sectorSetRange f)).elim
    ((fieldFault (sectorSetConsistency f)).elim (if s.guardsLocked (toSector f.sector) f = true then some (.locked, 0) else none)
      (fun n => some (.badField, octet n)))
    (fun n => some (.badField, octet n))

theorem State.sectorSetFailure_eq_none_iff : s.sectorSetFailure f = none ↔ s.AcceptsSectorSet f := by
  unfold State.sectorSetFailure
  constructor
  · intro passed
    cases range : fieldFault (sectorSetRange f) with
    | some n => simp [range] at passed
    | none =>
      cases consistent : fieldFault (sectorSetConsistency f) with
      | some n => simp [range, consistent] at passed
      | none => exact accepted_of_sectorSet_checks range consistent (by simpa [range, consistent] using passed)
  · intro accepted
    rw [sectorSetRange_of_accepted accepted, sectorSetConsistency_of_accepted accepted, guardsLocked_of_accepted accepted]
    rfl

theorem decideSectorSet_of_failure {code : RejectCode} {field : Octet} (failed : s.sectorSetFailure f = some (code, field)) :
    decideSectorSet f s = s.pushReply (.reject (some .sectorSet) code field 0) := by
  unfold State.sectorSetFailure at failed
  unfold decideSectorSet
  cases range : fieldFault (sectorSetRange f) with
  | some n =>
    obtain ⟨rfl, rfl⟩ : RejectCode.badField = code ∧ octet n = field := by simpa [range] using failed
    rfl
  | none =>
    cases consistent : fieldFault (sectorSetConsistency f) with
    | some n =>
      obtain ⟨rfl, rfl⟩ : RejectCode.badField = code ∧ octet n = field := by simpa [range, consistent] using failed
      rfl
    | none =>
      obtain ⟨locked, rfl, rfl⟩ : s.guardsLocked (toSector f.sector) f = true ∧ RejectCode.locked = code ∧ 0 = field := by
        simpa [range, consistent] using failed
      dsimp only
      rw [if_pos locked]
      rfl

/-- Settles O27: the two lists of checks and the lock, read as one chain. -/
theorem sectorSetChecks : Obligations.SectorSetChecks := by
  intro s f takes r k failed
  have chain : s.afterTaking.sectorSetFailure f = failed := by
    unfold State.sectorSetFailure
    rw [sectorSetRange_fault, sectorSetConsistency_fault]
    refine elim_fault fun _ => elim_fault fun _ => elim_fault fun _ => elim_fault fun _ => elim_fault fun _ =>
      elim_fault fun _ => elim_fault fun _ => elim_fault fun _ => elim_fault fun _ => elim_fault fun _ => ?_
    refine elim_fault fun _ => elim_fault fun _ => elim_fault fun _ => elim_fault fun _ => ?_
    refine if_congr ?_ rfl rfl
    rw [State.guardsLocked, Bool.and_eq_true, decide_eq_true_iff]
    rfl
  rw [← chain]
  refine ⟨State.sectorSetFailure_eq_none_iff.trans ⟨fun h => { h with }, fun h => { h with }⟩, fun code field first => ?_⟩
  rw [exec_sectorSet_takes takes, decideBody, decideSectorSet_of_failure first]

/-! ## The vote (R120 to R122) -/

theorem VoteHistory.countOf_eq_count (h : VoteHistory) (v : Vote) : h.countOf v = [h.oldest, h.middle, h.newest].count v := by
  rw [VoteHistory.countOf, List.count]
  exact List.countP_congr fun x _ => by simp

theorem decreaseAllowed_iff (w : Option Surge) (l : LevelId) :
    decreaseAllowed w l = true ↔ ∀ x, w = some x → x.floor.val + 1 ≤ l.val := by
  cases w <;> simp [decreaseAllowed]

theorem levelUp_val {l : LevelId} (below : l.val < 7) : (levelUp l).val = l.val + 1 := by
  rw [levelUp, dif_pos (by omega)]

/-- Settles O40: the two thresholds of the history, and a DOWN vote toward a level at or above the floor. -/
theorem voteMovesTheLevel : Obligations.VoteMovesTheLevel := by
  intro w level target h vote h' votes allowed result
  have cast : voteFor target level = vote := rfl
  have counts : ∀ v, (h.append vote).countOf v = votes v := fun v => VoteHistory.countOf_eq_count _ v
  have outcome : result = if 2 ≤ votes .up then (levelUp level, VoteHistory.cleared)
      else if 2 ≤ votes .down ∧ allowed then (levelDown level, VoteHistory.cleared) else (level, h') := by
    simp only [result, afterVote, cast, counts, decreaseAllowed_iff]
    rfl
  refine ⟨fun up below => ?_, fun few_up down free above => ?_, fun few_up kept => ?_, fun _ is_down floor x opened => ?_⟩
  · rw [outcome, if_pos up]
    exact ⟨levelUp_val below, rfl⟩
  · rw [outcome, if_neg (by omega), if_pos ⟨down, free⟩]
    exact ⟨Nat.sub_add_cancel above, rfl⟩
  · rw [outcome, if_neg (by omega), if_neg fun both => kept.elim (fun few => by omega) fun barred => barred both.2]
  · have lower : target < level := by
      simp only [vote] at is_down
      split at is_down
      · cases is_down
      · split at is_down
        · assumption
        · cases is_down
    have := floor x opened
    rw [Fin.le_def] at this
    rw [Fin.lt_def] at lower
    omega

end Sys2Proof.Machine
end

section
/-! PROOFS. The effects of RESTART (R20, R28, R36, R77, R112, R134, R168, R184, R197). -/

namespace Sys2Proof.Machine

variable {s : State}

/-! ## The screening table (R28, R36) -/

theorem State.restartScreening_hold (s : State) : s.restartScreening.screening.hold = none := by
  unfold State.restartScreening
  cases hold : s.screening.hold with
  | none => exact hold
  | some h => rfl

/-- The hit count is cleared, and a held entry's stored action reverts to the held copy's, or stays under the lock. -/
theorem State.restartScreening_entry (s : State) (i : ScreenIndex) :
    s.restartScreening.screenEntry i =
      { hits := 0, content := { (s.screenEntry i).content with
          action := match s.screening.hold with
            | some h => if h.index = i then s.revertedAction h else (s.screenEntry i).content.action
            | none => (s.screenEntry i).content.action } } := by
  unfold State.restartScreening
  cases s.screening.hold with
  | none => exact Table.get_map _ _ i
  | some h =>
    refine (Table.get_map _ _ i).trans ?_
    simp only [State.setHold, State.setScreenEntry, Table.get_set]
    by_cases here : h.index = i
    · rw [if_pos here, if_pos here, here]
    · rw [if_neg here, if_neg here]
      rfl

/-! ## The unsent status reports (R168) -/

theorem LinkPort.take_statusInTransmission (k : LinkPort) :
    k.statusLane.take k.statusInTransmission =
      match k.sending with
      | some d => if d.source = .status then k.statusLane.take 1 else []
      | none => [] := by
  unfold LinkPort.statusInTransmission
  cases k.sending with
  | none => rfl
  | some d =>
    dsimp only
    split <;> rfl

/-! ## The statement -/

/-- Settles O45: RESTART block by block, decided on the state without its frame. -/
theorem restartClearsTheWaiting : Obligations.RestartClearsTheWaiting := by
  intro s takes
  refine ⟨s.afterTaking.restart, ?state, fun t => s.afterTaking.restart_sector t, fun t n => ?slot, fun i => ?entry,
    exec_restart_takes takes⟩
  case state =>
    have hold := s.afterTaking.restartScreening_hold
    rw [State.restart, State.restartScreening_frame]
    simp only [LinkPort.restarted, LinkPort.take_statusInTransmission]
    generalize s.afterTaking.restartScreening.screening = table at hold
    obtain ⟨entries, _⟩ := table
    obtain rfl := hold
    rfl
  case slot =>
    rw [State.restart_slot]
    have same : s.afterTaking.slot t n = s.slot t n := rfl
    rw [same]
    cases s.slot t n <;> rfl
  case entry =>
    intro e
    refine (s.afterTaking.restartScreening_entry i).trans ?_
    have unheld : s.afterTaking.screening = s.screening := rfl
    rw [unheld, State.heldCopy]
    cases s.screening.hold with
    | none => rfl
    | some h =>
      by_cases here : h.index = i
      · subst here
        simp only [if_true]
        rfl
      · simp only [here, if_false]
        rfl

end Sys2Proof.Machine
end

section
/-! PROOFS. The answers to a room-appeared signal (R72, R76, R96): a walk that is not deferred leaves no FREE slot of an OPEN sector
with a candidate. -/

namespace Sys2Proof.Machine

variable {s u v : State} {t : SectorId} {n : SlotId}

/-! ## What serving takes away -/

/-- Slots are taken and entries leave: no slot becomes FREE, every waiting entry stood before, and no sector record changes. -/
structure State.Depletes (s u : State) : Prop where
  sectors : u.sectors = s.sectors
  free : ∀ t n, u.slot t n = .free → s.slot t n = .free
  waiting : ∀ c, ∀ y ∈ u.waiting c, ∃ x ∈ s.waiting c, x.sector = y.sector

theorem State.Depletes.refl (s : State) : s.Depletes s := ⟨rfl, fun _ _ => id, fun _ y hy => ⟨y, hy, rfl⟩⟩

theorem State.Depletes.trans (a : s.Depletes u) (b : u.Depletes v) : s.Depletes v where
  sectors := b.sectors.trans a.sectors
  free t n h := a.free t n (b.free t n h)
  waiting c z hz := by
    obtain ⟨y, hy, after⟩ := b.waiting c z hz
    obtain ⟨x, hx, before⟩ := a.waiting c y hy
    exact ⟨x, hx, before.trans after⟩

theorem Table.toList_eq_map {α : Type} {n : Nat} (t : Table α n) : t.toList = (List.finRange n).map t.get := by
  apply List.ext_getElem
  · simp [t.size_eq]
  · intro i _ _
    simp [Table.get]

theorem Table.countP_mono {α : Type} {n : Nat} {t u : Table α n} {p : α → Bool} (h : ∀ i, p (u.get i) = true → p (t.get i) = true) :
    u.toList.countP p ≤ t.toList.countP p := by
  rw [t.toList_eq_map, u.toList_eq_map, List.countP_map, List.countP_map]
  exact List.countP_mono_left fun i _ => h i

theorem State.Depletes.freeCount (depletes : s.Depletes u) (t : SectorId) : u.freeCount t ≤ s.freeCount t := by
  refine Table.countP_mono fun n taken => ?_
  have free : u.slot t n = .free := of_decide_eq_true taken
  exact decide_eq_true (depletes.free t n free)

theorem State.Depletes.passesGuard (depletes : s.Depletes u) {c : CallClass} (passes : u.PassesGuard t c) :
    s.PassesGuard t c := by
  have fewer := depletes.freeCount t
  rw [State.PassesGuard, State.sector_congr depletes.sectors] at passes
  exact passes.trans_le fewer

/-- A sector without a candidate has none once slots are taken and entries have left. -/
theorem State.Depletes.candidate_eq_none (depletes : s.Depletes u) (none_stands : s.candidate t = none) :
    u.candidate t = none := by
  rw [State.candidate_eq, Option.or_eq_none_iff, Option.or_eq_none_iff, State.guardedFirst_eq_none_iff,
    State.guardedFirst_eq_none_iff, List.find?_eq_none] at none_stands ⊢
  obtain ⟨urgent, priority, general⟩ := none_stands
  have later : ∀ c, ¬(s.PassesGuard t c ∧ ∃ x ∈ s.waiting c, x.sector = t) →
      ¬(u.PassesGuard t c ∧ ∃ x ∈ u.waiting c, x.sector = t) := by
    rintro c absent ⟨guard, y, hy, names⟩
    obtain ⟨x, hx, same⟩ := depletes.waiting c y hy
    exact absent ⟨depletes.passesGuard guard, x, hx, same.trans names⟩
  refine ⟨fun y hy eligible => ?_, later _ priority, later _ general⟩
  obtain ⟨x, hx, same⟩ := depletes.waiting .emergency y hy
  refine urgent x hx ?_
  rw [State.eligible, same, ← State.sector_congr depletes.sectors]
  exact eligible

/-! ## One slot served -/

theorem State.withdraw_depletes (s : State) (e : Waiting) : s.Depletes (s.withdraw e) := by
  have cleared : ∀ (b : Tag) (v : State), v.Depletes (v.setEarmark b none) := by
    intro b v
    refine ⟨rfl, fun _ _ => id, ?_⟩
    rintro (_ | _ | _) y hy
    · obtain ⟨x, hx, rfl⟩ := List.mem_map.mp hy
      exact ⟨x, hx, by split <;> rfl⟩
    · exact ⟨y, hy, rfl⟩
    · exact ⟨y, hy, rfl⟩
  obtain ⟨_, h⟩ | ⟨t, n, c, v, _, _, h⟩ | ⟨t, n, _, _, h⟩ := s.withdraw_cases e <;> rw [h]
  · exact .refl s
  · have active : s.Depletes (s.setSlot t n (.active c)) := by
      refine ⟨rfl, fun w m => ?_, fun _ y hy => ⟨y, by cases ‹CallClass› <;> exact hy, rfl⟩⟩
      rw [State.slot_setSlot]
      split
      · nofun
      · exact id
    have whole := active.trans (cleared e.tag _)
    exact ⟨whole.sectors, whole.free, whole.waiting⟩
  · exact cleared e.tag s

theorem State.grantWaiting_slot (s : State) (t : SectorId) (n : SlotId) (e : Waiting) (w : SectorId) (m : SlotId) :
    (s.grantWaiting t n e).slot w m = if t = w ∧ n = m then .active (s.callOf e) else s.slot w m := by
  rw [State.grantWaiting, State.slot_placeAction, State.removeWaiting, State.slot_congr (State.setWaiting_slots _ _ _),
    State.slot_setSlot]

theorem State.grantWaiting_depletes (s : State) (t : SectorId) (n : SlotId) (e : Waiting) : s.Depletes (s.grantWaiting t n e) := by
  refine ⟨s.grantWaiting_sectors t n e, fun w m => ?_, fun c y hy => ?_⟩
  · rw [State.grantWaiting_slot]
    split
    · nofun
    · exact id
  · have removed : (s.grantWaiting t n e).waiting c = ((s.setSlot t n (.active (s.callOf e))).removeWaiting e.cls e.tag).waiting c := by
      cases c <;> rfl
    rw [removed, State.removeWaiting] at hy
    refine ⟨y, ?_, rfl⟩
    by_cases here : e.cls = c
    · subst here
      rw [State.waiting_setWaiting] at hy
      have before := List.mem_of_mem_eraseP hy
      revert before
      cases e.cls <;> exact id
    · rw [State.waiting_setWaiting_ne _ here] at hy
      cases c <;> exact hy

/-! ## The walk -/

/-- A walk takes slots and entries away; not deferred, it leaves no candidate for a FREE slot that it has visited. -/
theorem serveWalk_leaves_none (l : List Place) (s : State) :
    s.Depletes (serveWalk l s) ∧ ((serveWalk l s).serviceDeferred = false → ∀ p ∈ l, (serveWalk l s).slot p.1 p.2 = .free →
      ((serveWalk l s).sector p.1).state = .opened → (serveWalk l s).candidate p.1 = none) := by
  induction l generalizing s with
  | nil => exact ⟨.refl s, fun _ => nofun⟩
  | cons p rest ih =>
    obtain ⟨passed, h⟩ | ⟨_, _, none_stands, h⟩ | ⟨e, _, _, _, _, h⟩ | ⟨e, _, _, _, _, h⟩ := s.serveSlot_cases p.1 p.2 <;>
      simp only [serveWalk, h, Bool.false_eq_true, if_false, if_true]
    case inl =>
      obtain ⟨depletes, none_left⟩ := ih s
      refine ⟨depletes, fun clear => List.forall_mem_cons.mpr ⟨fun free opened => absurd ?_ passed, none_left clear⟩⟩
      rw [State.sector_congr depletes.sectors] at opened
      exact ⟨depletes.free _ _ free, by simpa [State.isOpen] using opened⟩
    case inr.inl =>
      obtain ⟨depletes, none_left⟩ := ih s
      exact ⟨depletes, fun clear => List.forall_mem_cons.mpr ⟨fun _ _ => depletes.candidate_eq_none none_stands, none_left clear⟩⟩
    case inr.inr.inl => exact ⟨⟨rfl, fun _ _ => id, fun c y hy => ⟨y, by cases c <;> exact hy, rfl⟩⟩, nofun⟩
    case inr.inr.inr =>
      obtain ⟨depletes, none_left⟩ := ih ((s.withdraw e).grantWaiting p.1 p.2 e)
      refine ⟨((s.withdraw_depletes e).trans (State.grantWaiting_depletes _ _ _ _)).trans depletes, fun clear =>
        List.forall_mem_cons.mpr ⟨fun free _ => ?_, none_left clear⟩⟩
      have taken := depletes.free _ _ free
      rw [State.grantWaiting_slot, if_pos ⟨rfl, rfl⟩] at taken
      cases taken

/-! ## The statement -/

/-- Settles O23: both answers by their definitions, and what the retry leaves by the walk over every place. -/
theorem deferredServiceRetryAndPass : Obligations.DeferredServiceRetryAndPass := by
  intro s running
  refine ⟨fun signal mark => ⟨_, ?_, rfl, fun clear t n opened free => ?_⟩, fun answered signal mark => ?_⟩
  · refine congrArg Host.Outcome.next ?_
    obtain ⟨held, _⟩ | ⟨_, live⟩ := s.live_cases fun s => if s.retrySignal ∧ s.serviceDeferred then s.retryService
      else { s with retrySignal := false }
    · rw [running] at held
      cases held
    · exact live.trans (if_pos ⟨signal, mark⟩)
  · exact State.serveSlot_of_no_candidate free opened
      ((serveWalk_leaves_none allPlaces _).2 clear (t, n) (mem_allPlaces t n) free opened)
  · refine congrArg Host.Outcome.next ?_
    obtain ⟨held, _⟩ | ⟨_, live⟩ := s.live_cases fun s => if s.retrySignal then s
      else if s.passSignal ∧ s.passDeferred then ({ s with passSignal := false } : State).pass else { s with passSignal := false }
    · rw [running] at held
      cases held
    · exact live.trans ((if_neg (by simp [answered])).trans (if_pos ⟨signal, mark⟩))

end Sys2Proof.Machine
end

section
/-! LEMMAS. The transmitter: the arbiter's choice at a boundary (R166, R167) and the end of a frame with its room-appeared signal (R158,
R161). -/

namespace Sys2Proof.Machine

/-- A running part lets an effect happen. -/
theorem State.live_of_running {s : State} (running : s.inReset = false) (effect : State → State) : s.live effect = effect s := by
  obtain ⟨held, _⟩ | ⟨_, live⟩ := s.live_cases effect
  · rw [running] at held
    cases held
  · exact live

/-! ## The frame boundary -/

theorem State.frameBoundary_of_blocked {s : State} (blocked : s.link.sending ≠ none ∨ s.link.thold = true) : s.frameBoundary = s :=
  if_pos (blocked.imp_left Option.isSome_iff_ne_none.mpr)

/-- The arbiter's order: the action lane, then the reply queue, then the status lane. -/
theorem State.frameBoundary_of_free {s : State} (idle : s.link.sending = none) (clear : s.link.thold = false) :
    s.frameBoundary = match s.link.actionLane with
      | a :: _ => s.begin .action a.kind a.body
      | [] =>
        match s.link.replyQueue with
        | r :: _ => s.begin .reply r.kind r.body
        | [] =>
          match s.link.statusLane with
          | x :: _ => s.begin .status x.kind x.body
          | [] => s := by
  unfold State.frameBoundary
  rw [if_neg (by simp [idle, clear])]
  cases s.link.actionLane with
  | cons a _ => rfl
  | nil =>
    cases s.link.replyQueue with
    | cons r _ => rfl
    | nil => cases s.link.statusLane <;> rfl

/-- Settles O49: the boundary by the lanes in the arbiter's order, THOLD by its two samples. -/
theorem transmitterChoosesAtABoundary : Obligations.TransmitterChoosesAtABoundary := by
  intro s running began chosen tholdIs
  have chosen_eq (u : State) (idle : u.link.sending = none) (clear : u.link.thold = false) : u.frameBoundary = chosen u :=
    State.frameBoundary_of_free idle clear
  refine ⟨fun idle clear => congrArg Host.Outcome.next ?_, fun blocked => congrArg Host.Outcome.next ?_,
    fun n => congrArg Host.Outcome.next (State.live_of_running running _),
    fun n two stopped => congrArg Host.Outcome.next ?_, fun n few => congrArg Host.Outcome.next ?_⟩
  · exact (State.live_of_running running _).trans (chosen_eq s idle clear)
  · exact (State.live_of_running running _).trans (State.frameBoundary_of_blocked blocked)
  · refine (State.live_of_running running _).trans ((if_pos ⟨two, stopped⟩).trans ?_)
    split
    next idle => exact chosen_eq (tholdIs false) idle rfl
    next busy => exact State.frameBoundary_of_blocked (.inl busy)
  · refine (State.live_of_running running _).trans (if_neg fun taken => ?_)
    obtain few | clear := few
    · exact absurd taken.1 (Nat.not_le.mpr few)
    · simp [clear] at taken

/-! ## The end of a frame -/

theorem Watch.signal_eq (w : Watch) : w.signal = if w = .watched then Watch.watched else Watch.signalled := by
  cases w <;> rfl

theorem Slot.isSignalled_iff (x : Slot) : x.isSignalled = true ↔ ∃ c v, x = .vacating c v ∧ v.watch = .signalled := by
  cases x <;> simp [Slot.isSignalled, Watch.isSignalled]

/-- What is still owed to the last room-appeared signal (R161). -/
theorem State.answersOwed_iff (s : State) :
    s.answersOwed = true ↔ s.retrySignal = true ∨ s.passSignal = true ∨
      (∃ e ∈ s.emergency ++ s.priority ++ s.general, e.watch = .signalled) ∨
      ∃ t n c v, s.slot t n = .vacating c v ∧ v.watch = .signalled := by
  have places : (allPlaces.any fun p => (s.slot p.1 p.2).isSignalled) = true ↔
      ∃ t n c v, s.slot t n = .vacating c v ∧ v.watch = .signalled := by
    simp only [List.any_eq_true, Slot.isSignalled_iff]
    exact ⟨fun ⟨p, _, c, v, h⟩ => ⟨p.1, p.2, c, v, h⟩, fun ⟨t, n, c, v, h⟩ => ⟨(t, n), mem_allPlaces t n, c, v, h⟩⟩
  have entries : (∃ e ∈ s.emergency ++ s.priority ++ s.general, e.watch = .signalled) ↔
      ((s.emergency.any fun e => e.watch.isSignalled) = true ∨ (s.priority.any fun e => e.watch.isSignalled) = true) ∨
        (s.general.any fun e => e.watch.isSignalled) = true := by
    simp only [List.any_eq_true, Watch.isSignalled, decide_eq_true_eq, List.mem_append, or_and_right, exists_or]
  simp only [State.answersOwed, Bool.or_eq_true, places, entries]
  tauto

theorem State.frameEnd_reply {s : State} {d : Sending} (sending : s.link.sending = some d) (source : d.source = .reply) :
    s.frameEnd = { s with link := { s.link with sending := none, replyQueue := s.link.replyQueue.tail } } := by
  simp only [State.frameEnd, sending, source, List.drop_one]

theorem State.frameEnd_status {s : State} {d : Sending} (sending : s.link.sending = some d) (source : d.source = .status) :
    s.frameEnd = { s with link := { s.link with sending := none, statusLane := s.link.statusLane.tail } } := by
  simp only [State.frameEnd, sending, source, List.drop_one]

theorem State.frameEnd_action {s : State} {d : Sending} (sending : s.link.sending = some d) (source : d.source = .action) :
    s.frameEnd = if s.answersOwed then s else
      ({ s with link := { s.link with sending := none, actionLane := s.link.actionLane.tail } } : State).roomAppeared := by
  simp only [State.frameEnd, sending, source, List.drop_one]

/-- With no answer owed, a signal stands exactly where its mark does. -/
theorem State.frameEnd_action_of_answered {s : State} {d : Sending} (sending : s.link.sending = some d) (source : d.source = .action)
    (answered : ¬s.answersOwed = true) :
    s.frameEnd = { s with
      link := { s.link with sending := none, actionLane := s.link.actionLane.tail }
      retrySignal := s.serviceDeferred, passSignal := s.passDeferred
      emergency := s.emergency.map Waiting.signal, priority := s.priority.map Waiting.signal, general := s.general.map Waiting.signal
      slots := s.slots.map fun row => row.map Slot.signal } := by
  have retry : s.retrySignal = false := by simpa using fun h => answered (s.answersOwed_iff.mpr (.inl h))
  have pass : s.passSignal = false := by simpa using fun h => answered (s.answersOwed_iff.mpr (.inr (.inl h)))
  rw [State.frameEnd_action sending source, if_neg answered]
  simp only [State.roomAppeared, retry, pass, Bool.false_or]

/-- Settles O50: by the source of the frame that ends. -/
theorem frameEndLeavesItsLane : Obligations.FrameEndLeavesItsLane := by
  intro s d running sending owed again signalled
  have ends : exec .frameEnd s = .next s.frameEnd := congrArg Host.Outcome.next (State.live_of_running running _)
  have redelivered : signalled = List.map Waiting.signal := by
    simp only [signalled, again, ← Watch.signal_eq]
    rfl
  refine ⟨fun source => ends.trans ?_, fun source => ends.trans ?_, fun source answers => ends.trans ?_, fun source answered =>
    ⟨s.frameEnd, ends, ?_⟩⟩
  · rw [State.frameEnd_reply sending source]
  · rw [State.frameEnd_status sending source]
  · rw [State.frameEnd_action sending source, if_pos (s.answersOwed_iff.mpr answers)]
  · rw [State.frameEnd_action_of_answered sending source fun h => answered (s.answersOwed_iff.mp h), redelivered]
    refine ⟨rfl, fun t n => (State.signalSlots_slot s t n).trans ?_⟩
    cases s.slot t n with
    | vacating c v => exact congrArg (fun w => Slot.vacating c { v with watch := w }) v.watch.signal_eq
    | _ => rfl

end Sys2Proof.Machine
end

section
/-! LEMMAS. The receiver: a bit and an octet from their samples (R171), and what each octet, a lost frame and a good frame do (R175 to
R178). -/

namespace Sys2Proof.Machine

/-! ## A bit and an octet from their samples -/

theorem majority_iff (x : CentreSamples) : majority x = true ↔ 2 ≤ [x.s7, x.s8, x.s9].count true := by
  have every : ∀ a b c : Bool, majority ⟨a, b, c⟩ = true ↔ 2 ≤ [a, b, c].count true := by decide
  exact every x.s7 x.s8 x.s9

theorem majority_of_samples {x : CentreSamples} {b : Bool} (h : [x.s7, x.s8, x.s9] = [b, b, b]) : majority x = b := by
  simp only [List.cons.injEq, and_true] at h
  obtain ⟨h7, h8, h9⟩ := h
  simp [majority, h7, h8, h9]

/-- An octet is put together from its eight bits. -/
theorem octet_of_bits (o : Octet) :
    octet ((if o.getLsbD 0 then 1 else 0) + (if o.getLsbD 1 then 2 else 0) + (if o.getLsbD 2 then 4 else 0) +
      (if o.getLsbD 3 then 8 else 0) + (if o.getLsbD 4 then 16 else 0) + (if o.getLsbD 5 then 32 else 0) +
      (if o.getLsbD 6 then 64 else 0) + (if o.getLsbD 7 then 128 else 0)) = o := by
  have every : ∀ n : Fin 256, octet ((if n.val.testBit 0 then 1 else 0) + (if n.val.testBit 1 then 2 else 0) +
      (if n.val.testBit 2 then 4 else 0) + (if n.val.testBit 3 then 8 else 0) + (if n.val.testBit 4 then 16 else 0) +
      (if n.val.testBit 5 then 32 else 0) + (if n.val.testBit 6 then 64 else 0) + (if n.val.testBit 7 then 128 else 0)) =
      BitVec.ofFin n := by decide +kernel
  exact every o.toFin

theorem dataOctet_eq {c : CharSamples} {o : Octet}
    (bits : ∀ (i : Nat) (x : CentreSamples), [c.d0, c.d1, c.d2, c.d3, c.d4, c.d5, c.d6, c.d7][i]? = some x →
      majority x = o.getLsbD i) : dataOctet c = o := by
  rw [dataOctet, bits 0 _ rfl, bits 1 _ rfl, bits 2 _ rfl, bits 3 _ rfl, bits 4 _ rfl, bits 5 _ rfl, bits 6 _ rfl, bits 7 _ rfl,
    octet_of_bits]

/-! ## A character -/

/-- The receiver watches for a start bit: it does not wait for the line to return high, or the line has (R171). -/
def State.SeesStart (s : State) (c : CharSamples) : Prop := s.link.lineLow = false ∨ c.lineReturned = true

theorem State.receiveCharacter_of_waiting {s : State} {c : CharSamples} (waits : ¬s.SeesStart c) : s.receiveCharacter c = s :=
  if_pos (by simpa [State.SeesStart] using waits)

theorem State.receiveCharacter_of_noise {s : State} {c : CharSamples} (watches : s.SeesStart c) (high : majority c.start = true) :
    s.receiveCharacter c = s.setLineLow false := by
  refine (if_neg (by simpa [State.SeesStart, imp_iff_not_or] using watches)).trans ?_
  simp only [delivered, high, if_true]

theorem State.receiveCharacter_of_start {s : State} {c : CharSamples} (watches : s.SeesStart c) (low : majority c.start = false) :
    s.receiveCharacter c = (s.setLineLow (!majority c.stop)).receiveOctet (dataOctet c) := by
  refine (if_neg (by simpa [State.SeesStart, imp_iff_not_or] using watches)).trans ?_
  simp only [delivered, low, Bool.false_eq_true, if_false]

/-! ## An octet, by the state of the receiver -/

theorem lengthInRange_iff (o : Octet) : lengthInRange o = true ↔ 1 ≤ o.toNat ∧ o.toNat ≤ 248 := decide_eq_true_iff

theorem State.receiveOctet_hunt {s : State} (h : s.link.receiver = .hunt) (o : Octet) :
    s.receiveOctet o = if o = 0x5A then s.setReceiver .length else s := by
  simp only [State.receiveOctet, h]

theorem State.receiveOctet_length {s : State} (h : s.link.receiver = .length) (o : Octet) :
    s.receiveOctet o = if 1 ≤ o.toNat ∧ o.toNat ≤ 248 then s.setReceiver (.body o.toNat []) else s.loseFrame .check := by
  simp only [State.receiveOctet, h, lengthInRange_iff]

theorem State.receiveOctet_body {s : State} {n : Nat} {got : List Octet} (h : s.link.receiver = .body n got) (short : got.length < n)
    (o : Octet) : s.receiveOctet o =
      if got.length + 1 = n then s.setReceiver (.check (got ++ [o]) none) else s.setReceiver (.body n (got ++ [o])) := by
  simp only [State.receiveOctet, h, show n ≤ got.length + 1 ↔ got.length + 1 = n by omega]

theorem State.receiveOctet_firstCheck {s : State} {got : List Octet} (h : s.link.receiver = .check got none) (o : Octet) :
    s.receiveOctet o = s.setReceiver (.check got (some o)) := by
  simp only [State.receiveOctet, h]

theorem State.receiveOctet_secondCheck {s : State} {got : List Octet} {hi : Octet} (h : s.link.receiver = .check got (some hi))
    (o : Octet) : s.receiveOctet o = s.completeFrame got hi o := by
  simp only [State.receiveOctet, h]

/-! ## The events of the receiver -/

/-- Settles O48: each clause by the equation of the event it is about. -/
theorem receiverEvents : Obligations.ReceiverEvents := by
  intro s running with_ level raised lost lostCheck watches waiting
  have takes (c : CharSamples) : exec (.octetDelivered c) s = .next (s.receiveCharacter c) :=
    congrArg Host.Outcome.next (State.live_of_running running _)
  have completes {u : State} {got : List Octet} {hi : Octet} (live : u.inReset = false)
      (h : u.link.receiver = .check got (some hi)) (lo : Octet) : exec (.goodFrame lo) u = .next (u.completeFrame got hi lo) := by
    refine congrArg Host.Outcome.next ((State.live_of_running live _).trans ?_)
    simp only [h]
  refine ⟨fun c waits => (takes c).trans ?_, fun c w high => (takes c).trans ?_, fun c o low w start stop bits => ?_,
    fun o h out => ?_, fun kind body hi lo h => (completes running h lo).trans ?_, fun inside => ?_⟩
  · rw [State.receiveCharacter_of_waiting waits]
  · rw [State.receiveCharacter_of_noise w ((majority_iff _).mpr high)]
    rfl
  · have octet : dataOctet c = o := dataOctet_eq fun i x at_i => by
      rw [Bool.eq_iff_iff, majority_iff]
      exact (bits i x at_i).symm
    have stopped : (!majority c.stop) = low := by
      rw [Bool.eq_iff_iff, stop, Bool.not_eq_true', ← Bool.not_eq_true, majority_iff]
    have started : majority c.start = false := by simpa only [← Bool.not_eq_true, majority_iff] using start
    have delivers : exec (.octetDelivered c) s = .next ((waiting low).receiveOctet o) := by
      rw [takes, State.receiveCharacter_of_start w started, octet, stopped]
      rfl
    refine ⟨fun h => delivers.trans ?_, fun h => delivers.trans ?_, fun n got h short => delivers.trans ?_,
      fun got h => delivers.trans ?_, fun got hi h => delivers.trans ?_⟩
    · rw [State.receiveOctet_hunt (s := waiting low) h]
      exact apply_ite _ _ _ _
    · rw [State.receiveOctet_length (s := waiting low) h]
      exact apply_ite _ _ _ _
    · rw [State.receiveOctet_body (s := waiting low) h short]
      exact apply_ite _ _ _ _
    · rw [State.receiveOctet_firstCheck (s := waiting low) h]
      rfl
    · rw [State.receiveOctet_secondCheck (s := waiting low) h]
      exact (completes (u := waiting low) running h o).symm
  · have wrong : ¬lengthInRange o = true := by
      rw [lengthInRange_iff]
      obtain rfl | big := out
      · decide
      · omega
    refine congrArg Host.Outcome.next ((State.live_of_running running _).trans ((if_pos ⟨h, wrong⟩).trans ?_))
    rw [State.receiveOctet_length h, if_neg ((lengthInRange_iff o).not.mp wrong)]
    rfl
  · exact apply_ite _ _ _ _
  · exact congrArg Host.Outcome.next ((State.live_of_running running _).trans (if_neg inside))

end Sys2Proof.Machine
end

section
/-! LEMMAS. A whole frame at the receiver (R173, R175 to R177), and a frame's characters on the transmit line (R170, R172). -/

namespace Sys2Proof.Machine

/-! ## A frame at the receiver -/

/-- The octets of kind and body, one after the other, bring the receiver to the check octets. -/
theorem foldl_receiveOctet_body {n : Nat} (rest got : List Octet) (s : State) (h : s.link.receiver = .body n got)
    (all : got.length + rest.length = n) (some_left : rest ≠ []) :
    rest.foldl State.receiveOctet s = s.setReceiver (.check (got ++ rest) none) := by
  induction rest generalizing got s with
  | nil => exact absurd rfl some_left
  | cons o rest ih =>
    rw [List.length_cons] at all
    rw [List.foldl_cons, State.receiveOctet_body h (by omega)]
    cases rest with
    | nil => rw [if_pos (by simpa using all), List.foldl_nil]
    | cons p rest =>
      rw [List.length_cons] at all
      rw [if_neg (by omega), ih (got ++ [o]) _ rfl (by simp; omega) (List.cons_ne_nil _ _), List.append_assoc]
      rfl

theorem State.completeFrame_of_match (s : State) {kind hi lo : Octet} {body : List Octet}
    (good : crc (lengthOctet (kind :: body) :: kind :: body) = join2 hi lo) :
    s.completeFrame (kind :: body) hi lo =
      ({ s with link := { s.link with receiver := .hunt, gapTicks := 0 } } : State).arrive ⟨kind, body⟩ := if_pos good

theorem wireFrame_eq (kind : Octet) (body : List Octet) :
    wireFrame kind body = 0x5A :: lengthOctet (kind :: body) :: ((kind :: body) ++
      [(crc (lengthOctet (kind :: body) :: kind :: body)).extractLsb' 8 8,
        (crc (lengthOctet (kind :: body) :: kind :: body)).extractLsb' 0 8]) := rfl

/-- A receiver in HUNT takes a frame that the link can carry whole. -/
theorem foldl_receiveOctet_wireFrame {s : State} (h : s.link.receiver = .hunt) (kind : Octet) {body : List Octet}
    (fits : body.length ≤ 247) : (wireFrame kind body).foldl State.receiveOctet s =
      ({ s with link := { s.link with gapTicks := 0 } } : State).arrive ⟨kind, body⟩ := by
  have count : (lengthOctet (kind :: body)).toNat = body.length + 1 := octet_toNat (by rw [List.length_cons]; omega)
  have hunting : ({ s.link with receiver := .hunt, gapTicks := 0 } : LinkPort) = { s.link with gapTicks := 0 } := by rw [← h]
  rw [wireFrame_eq, List.foldl_cons, State.receiveOctet_hunt h, if_pos rfl, List.foldl_cons, State.receiveOctet_length rfl, count,
    if_pos (by omega), List.foldl_append, foldl_receiveOctet_body (n := body.length + 1) (kind :: body) [] _ rfl (by simp)
    (List.cons_ne_nil _ _), List.nil_append, List.foldl_cons, State.receiveOctet_firstCheck rfl, List.foldl_cons,
    State.receiveOctet_secondCheck rfl, State.completeFrame_of_match _ (join2_octets _).symm, List.foldl_nil, ← hunting]
  rfl

/-! ## Characters on the line -/

theorem sentCharacter_length (o : Octet) : (sentCharacter o).length = 10 := rfl

theorem sentCharacter_data (o : Octet) : ∀ i < 8, (sentCharacter o)[i + 1]? = some (o.getLsbD i) := by
  intro i small
  interval_cases i <;> rfl

theorem flatMap_sentCharacter_length (l : List Octet) : (l.flatMap sentCharacter).length = 10 * l.length := by
  induction l with
  | nil => rfl
  | cons o l ih => rw [List.flatMap_cons, List.length_append, ih, sentCharacter_length, List.length_cons, Nat.mul_succ, Nat.add_comm]

/-- Ten bit times for each octet: bit time `10 * i + j` shows level `j` of octet `i`. -/
theorem flatMap_sentCharacter_getElem? {l : List Octet} {i j : Nat} {o : Octet} (at_i : l[i]? = some o) (small : j < 10) :
    (l.flatMap sentCharacter)[10 * i + j]? = (sentCharacter o)[j]? := by
  induction l generalizing i with
  | nil => cases at_i
  | cons p l ih =>
    rw [List.flatMap_cons]
    cases i with
    | zero =>
      cases at_i
      rw [Nat.mul_zero, Nat.zero_add, List.getElem?_append_left (by rwa [sentCharacter_length])]
    | succ i =>
      rw [List.getElem?_append_right (by rw [sentCharacter_length]; omega), sentCharacter_length,
        show 10 * (i + 1) + j - 10 = 10 * i + j by omega]
      exact ih at_i

theorem State.txdLevel_of_sending {s : State} {d : Sending} (h : s.link.sending = some d) (bit : Nat) :
    s.txdLevel bit = ((d.octets.flatMap sentCharacter)[bit]?).getD true := by
  simp only [State.txdLevel, h, Sending.levels]

theorem State.txdLevel_of_idle {s : State} (h : s.link.sending = none) (bit : Nat) : s.txdLevel bit = true := by
  simp only [State.txdLevel, h]

/-- A character sampled at the levels it is sent with delivers its octet, and the line stands high after it. -/
theorem State.receiveCharacter_sent {s : State} {o : Octet} {c : CharSamples} (high : s.link.lineLow = false)
    (sampled : ∀ (i : Nat) (x : CentreSamples) (b : Bool),
      [c.start, c.d0, c.d1, c.d2, c.d3, c.d4, c.d5, c.d6, c.d7, c.stop][i]? = some x → (sentCharacter o)[i]? = some b →
      [x.s7, x.s8, x.s9] = [b, b, b]) : s.receiveCharacter c = s.receiveOctet o := by
  have start : majority c.start = false := majority_of_samples (sampled 0 _ _ rfl rfl)
  have stop : majority c.stop = true := majority_of_samples (sampled 9 _ _ rfl rfl)
  have data : dataOctet c = o := dataOctet_eq fun i x at_i => by
    have small := (List.getElem?_eq_some_iff.mp at_i).1
    exact majority_of_samples (sampled (i + 1) x _ ((List.getElem?_append_left (l₂ := [c.stop]) small).trans at_i)
      (sentCharacter_data o i small))
  have waiting : s.setLineLow false = s := by
    rw [State.setLineLow, ← high]
  rw [State.receiveCharacter_of_start (.inl high) start, data, stop, Bool.not_true, waiting]

/-! ## The statement -/

/-- Settles O9: the frame by its definition, the receiver octet by octet, the line by ten bit times for each octet. -/
theorem receiverTakesWholeFrames : Obligations.ReceiverTakesWholeFrames := by
  refine ⟨fun _ _ => rfl, fun s kind body hunting fits => ⟨?_, foldl_receiveOctet_wireFrame hunting kind fits⟩,
    fun o => ⟨rfl, rfl, rfl, sentCharacter_data o⟩, fun s d sending => ⟨fun i j o at_i small => ?_, fun bit after => ?_⟩,
    fun s idle => State.txdLevel_of_idle idle,
    fun s o c running high sampled => congrArg Host.Outcome.next ((State.live_of_running running _).trans
      (State.receiveCharacter_sent high sampled))⟩
  · rw [wireFrame_eq]
    simp
  · obtain ⟨level, shown⟩ : ∃ b, (sentCharacter o)[j]? = some b := ⟨_, List.getElem?_eq_getElem small⟩
    rw [State.txdLevel_of_sending sending, flatMap_sentCharacter_getElem? at_i small, shown]
    rfl
  · rw [State.txdLevel_of_sending sending, List.getElem?_eq_none (by rwa [flatMap_sentCharacter_length])]
    rfl

end Sys2Proof.Machine
end

section
/-! LEMMAS. The six queries (11.3): the reply of each as one expression of the state, and the figures that it carries. -/

namespace Sys2Proof.Machine

/-! ## The slots of a sector as a list -/

theorem State.slots_toList (s : State) (t : SectorId) : (s.slots.get t).toList = allSlots.map (s.slot t) :=
  (s.slots.get t).toList_eq_map

theorem State.countSlots_eq (s : State) (t : SectorId) (p : Slot → Bool) :
    s.countSlots t p = allSlots.countP fun n => p (s.slot t n) := by
  rw [State.countSlots, State.slots_toList, List.countP_map]
  rfl

/-- Each slot is in one of the five states, and occupied in the last three. -/
theorem countP_slot_states (l : List Slot) :
    l.countP Slot.isClosed + l.countP Slot.isFree + l.countP Slot.isActive + l.countP Slot.isVacating + l.countP Slot.isStuck =
      l.length ∧
    l.countP Slot.isActive + l.countP Slot.isVacating + l.countP Slot.isStuck = l.countP Slot.occupied := by
  induction l with
  | nil => exact ⟨rfl, rfl⟩
  | cons x l ih =>
    obtain ⟨all, occupied⟩ := ih
    cases x <;>
      simp [List.countP_cons, Slot.isClosed, Slot.isFree, Slot.isActive, Slot.isVacating, Slot.isStuck, Slot.occupied, Slot.call?] <;>
      omega

theorem State.slotRecords_eq (s : State) (t : SectorId) {o : Octet} (range : ¬23 < o.toNat) :
    s.slotRecords t (toSlot o) = ((allSlots.drop o.toNat).take 12).map (s.slot t) := by
  have first : (toSlot o).val = o.toNat := Nat.mod_eq_of_lt (by omega)
  rw [State.slotRecords, State.slots_toList, first, List.map_take, List.map_drop]

/-! ## The replies -/

theorem decideQuerySector_eq (s : State) (o : Octet) : decideQuerySector o s = s.pushReply (
    if 15 < o.toNat then .reject (some .querySector) .badField 1 0
    else .sectorInfo (toSector o) (s.sector (toSector o)) (s.slotCounts (toSector o))) := by
  rw [decideQuerySector, sectorFault_eq]
  split_ifs <;> rfl

theorem querySlotsChecks_fault (f : QuerySlotsFields) : fieldFault (querySlotsChecks f) =
    if 15 < f.sector.toNat then some 1 else if 23 < f.firstSlot.toNat then some 2 else none := by
  refine fieldFault_cons ?sector (fieldFault_cons ?firstSlot rfl)
  all_goals exact decide_eq_false_iff_not.trans not_le

theorem decideQuerySlots_eq (s : State) (f : QuerySlotsFields) : decideQuerySlots f s = s.pushReply (
    if 15 < f.sector.toNat then .reject (some .querySlots) .badField 1 0
    else if 23 < f.firstSlot.toNat then .reject (some .querySlots) .badField 2 0
    else .slotsInfo (toSector f.sector) (toSlot f.firstSlot)
      (((allSlots.drop f.firstSlot.toNat).take 12).map (s.slot (toSector f.sector)))) := by
  rw [decideQuerySlots, querySlotsChecks_fault]
  split_ifs with sector first
  · rfl
  · rfl
  · rw [← s.slotRecords_eq _ first]

theorem queryListChecks_fault (f : QueryListFields) : fieldFault (queryListChecks f) =
    if f.cls = 0 ∨ 3 < f.cls.toNat then some 1 else if f.start = 0 then some 2 else none := by
  refine fieldFault_cons ?cls (fieldFault_cons ?start rfl)
  case cls =>
    rw [Option.isSome_eq_false_iff, Option.isNone_iff_eq_none, CallClass.ofCode_eq_none_iff, ← BitVec.toNat_inj]
    rfl
  case start =>
    rw [decide_eq_false_iff_not, ← BitVec.toNat_inj]
    exact Nat.not_le.trans Nat.lt_one_iff

/-- A list as a QUERY-LIST reply shows it (R193). -/
def listReply (start : Octet) (c : CallClass) (l : List Waiting) : Reply :=
  .listInfo c start.toNat l.length ((l.drop (start.toNat - 1)).take 8)

theorem decideQueryList_eq (s : State) (f : QueryListFields) : decideQueryList f s = s.pushReply (
    if f.cls = 0 ∨ 3 < f.cls.toNat then .reject (some .queryList) .badField 1 0
    else if f.start = 0 then .reject (some .queryList) .badField 2 0
    else if f.cls = 1 then listReply f.start .emergency s.emergency
    else if f.cls = 2 then listReply f.start .priority s.priority
    else listReply f.start .general s.general) := by
  rw [decideQueryList, queryListChecks_fault]
  split_ifs with cls start emergency priority
  · rfl
  · rfl
  · rw [emergency]
    rfl
  · rw [priority]
    rfl
  · have general : f.cls = 3 := by bv_omega
    rw [general]
    rfl

theorem decideQueryScreen_eq (s : State) (o : Octet) : decideQueryScreen o s = s.pushReply (
    if 31 < o.toNat then .reject (some .queryScreen) .badField 1 0
    else .screenInfo (toScreenIndex o) (s.screenEntry (toScreenIndex o)) (s.heldCopy (toScreenIndex o))) := by
  rw [decideQueryScreen, indexFault_eq]
  split_ifs <;> rfl

/-! ## The figures of QUERY-STATUS -/

theorem surgeRemaining_of_past {w : Surge} {now : Time} (past : signedDiff w.close now ≤ 0) : surgeRemaining w now = 0 := by
  rw [surgeRemaining, surgeRemainingMs, Int.toNat_of_nonpos past]

theorem surgeRemaining_of_left {w : Surge} {now : Time} {left : Nat} (h : signedDiff w.close now = left) :
    surgeRemaining w now = (left + 999) / 1000 := by
  rw [surgeRemaining, surgeRemainingMs, h, Int.toNat_natCast]

theorem Watch.pending_iff (w : Watch) : w.pending = true ↔ w ≠ .watched := by
  cases w <;> decide

theorem State.expiryPending_iff (s : State) :
    s.expiryPending = true ↔ (∃ e ∈ s.emergency ++ s.priority ++ s.general, e.watch ≠ .watched) ∨
      ∃ t n c v, s.slot t n = .vacating c v ∧ v.watch ≠ .watched := by
  have slot (x : Slot) : x.expiryPending = true ↔ ∃ c v, x = .vacating c v ∧ v.watch ≠ .watched := by
    cases x <;> simp [Slot.expiryPending, Watch.pending_iff]
  have places : (allPlaces.any fun p => (s.slot p.1 p.2).expiryPending) = true ↔
      ∃ t n c v, s.slot t n = .vacating c v ∧ v.watch ≠ .watched := by
    simp only [List.any_eq_true, slot]
    exact ⟨fun ⟨p, _, c, v, h⟩ => ⟨p.1, p.2, c, v, h⟩, fun ⟨t, n, c, v, h⟩ => ⟨(t, n), mem_allPlaces t n, c, v, h⟩⟩
  simp only [State.expiryPending, Bool.or_eq_true, places, List.any_eq_true, Watch.pending_iff, List.mem_append, or_and_right,
    exists_or]

/-! ## The statement -/

/-- Settles O43: the replies by their equations, the figures by the fields of the state. -/
theorem queriesReadTheState : Obligations.QueriesReadTheState := by
  intro s answered badField
  refine ⟨fun takes => exec_queryStatus_takes takes, fun takes => exec_queryLevels_takes takes,
    fun o takes => (exec_querySector_takes takes).trans (congrArg _ (decideQuerySector_eq _ o)),
    fun f takes => (exec_querySlots_takes takes).trans (congrArg _ (decideQuerySlots_eq _ f)),
    fun f takes => (exec_queryList_takes takes).trans (congrArg _ (decideQueryList_eq _ f)),
    fun o takes => (exec_queryScreen_takes takes).trans (congrArg _ (decideQueryScreen_eq _ o)),
    ⟨rfl, rfl, rfl, rfl, rfl, rfl, rfl, rfl, rfl, rfl, rfl, rfl, rfl, rfl, rfl, fun shut => ?_, fun w opened => ?_,
      fun none_held => ?_, fun h held => ?_, fun empty => ?_, fun e rest first => ?_⟩,
    s.expiryPending_iff, fun t => ?_⟩
  · simp [State.statusInfo, shut]
  · have remaining : s.statusInfo.surgeRemaining = surgeRemaining w s.localTime := by simp only [State.statusInfo, opened]
    exact ⟨congrArg Option.isSome opened, by simp only [State.statusInfo, opened],
      fun past => remaining.trans (surgeRemaining_of_past past), fun _ left => remaining.trans (surgeRemaining_of_left left)⟩
  · exact congrArg (Option.map Hold.index) none_held
  · exact congrArg (Option.map Hold.index) held
  · exact congrArg (fun l => l.head?.map Waiting.tag) empty
  · exact congrArg (fun l => l.head?.map Waiting.tag) first
  · obtain ⟨all, occupied⟩ := countP_slot_states (s.slots.get t).toList
    exact ⟨all.trans (s.slots.get t).size_eq, occupied, s.countSlots_eq t _, s.countSlots_eq t _, rfl, s.countSlots_eq t _,
      s.countSlots_eq t _, s.countSlots_eq t _⟩

end Sys2Proof.Machine
end

section
/-! LEMMAS. The bodies of replies and reports (10.6, chapter 11): the model's fields as octets by division, and the lengths of the
records. -/

namespace Sys2Proof.Machine

/-! ## Fields of several octets -/

theorem octetsNat2_eq (n : Nat) : octetsNat2 n = [BitVec.ofNat 8 (n / 256), BitVec.ofNat 8 n] := by
  rw [octetsNat2, octets2_eq, BitVec.toNat_ofNat]
  simp only [List.cons.injEq, and_true]
  constructor <;>
  · apply BitVec.eq_of_toNat_eq
    simp only [BitVec.toNat_ofNat]
    omega

theorem octets3_setWidth_eq (v : ScreenKey) : octets3 (v.setWidth 24) =
    [BitVec.ofNat 8 (v.toNat / 65536), BitVec.ofNat 8 (v.toNat / 256), BitVec.ofNat 8 v.toNat] := by
  rw [octets3_eq, BitVec.toNat_setWidth_of_le (by decide)]

@[simp] theorem octetsNat2_length (n : Nat) : (octetsNat2 n).length = 2 := rfl

/-! ## Lengths of the records -/

@[simp] theorem placeOctets_length (p : Place) : (placeOctets p).length = 2 := rfl

@[simp] theorem neighbourOctets_length (l : List SectorId) : (neighbourOctets l).length = 3 := by
  simp [neighbourOctets]

theorem slotOctets_length (x : Slot) : (slotOctets x).length = 20 := by
  cases x <;> rfl

theorem waitingOctets_length (e : Waiting) : (waitingOctets e).length = 23 := by
  unfold waitingOctets
  split
  · cases e.earmark <;> rfl
  · rfl

@[simp] theorem screenOctets_length (c : ScreenContent) : (screenOctets c).length = 11 := by
  unfold screenOctets
  cases c.action <;> rfl

theorem levelRowOctets_length (r : LevelRow) : (levelRowOctets r).length = 8 := rfl

theorem length_flatMap_of_const {α : Type} {f : α → List Octet} {k : Nat} (h : ∀ x, (f x).length = k) (l : List α) :
    (l.flatMap f).length = k * l.length := by
  simp [List.length_flatMap, h, Nat.mul_comm]

/-- A level table is sent lowest level first (R195). -/
theorem Table.flatMap_levels (t : Table LevelRow 8) : t.toList.flatMap levelRowOctets =
    allLevels.flatMap fun l => levelRowOctets (t.get l) := by
  rw [Table.toList_eq_map, List.flatMap_map]
  rfl

/-! ## The statement -/

/-- Settles O44: each code and field of the statement is the model's, and then each body is the model's. -/
theorem messageBodyLengths : Obligations.MessageBodyLengths := by
  unfold Obligations.MessageBodyLengths
  intro o1 o2 o3 o4 flag cls state sectorState vote code attempt cause event policy refusedClass why call record earmark waiting
    action entry row rows
  have two : o2 = octetsNat2 := funext fun n => (octetsNat2_eq n).symm
  have three : o3 = fun v => octets3 (v.setWidth 24) := funext fun v => (octets3_setWidth_eq v).symm
  have four : o4 = octets4 := funext fun v => (octets4_eq v).symm
  have classes : cls = CallClass.code := by funext c; cases c <;> rfl
  have states : state = SlotCode.code := by funext x; cases x <;> rfl
  have sectorStates : sectorState = SectorState.code := by funext x; cases x <;> rfl
  have votes : vote = Vote.code := by funext x; cases x <;> rfl
  have codes : code = RejectCode.code := by funext x; cases x <;> rfl
  have attempts : attempt = Attempt.code := by funext x; cases x <;> rfl
  have causes : cause = ExpiredCause.code := by funext x; cases x <;> rfl
  have events : event = SurgeEvent.code := by funext x; cases x <;> rfl
  have policies : policy = ListPolicy.code := by funext x; cases x <;> rfl
  clear_value o2 o3 o4 cls state sectorState vote code attempt cause event policy
  subst two three four classes states sectorStates votes codes attempts causes events policies
  have records : record = slotOctets := by
    funext x
    cases x with
    | vacating c v => obtain ⟨attempt, _, _, _⟩ := v; cases attempt <;> rfl
    | _ => rfl
  have entries : waiting = waitingOctets := by
    funext e
    simp only [waiting, earmark, waitingOctets]
    cases e.earmark <;> rfl
  have contents : entry = screenOctets := by
    funext c
    simp only [entry, action, screenOctets]
    cases c.action <;> rfl
  have levels (t : Table LevelRow 8) : rows t = t.toList.flatMap levelRowOctets := t.flatMap_levels.symm
  clear_value record waiting entry rows
  subst records entries contents
  refine ⟨fun r => by cases r <;> rfl, fun r => by cases r <;> rfl, fun _ _ _ _ => rfl, fun _ _ _ _ _ => rfl, fun _ _ _ _ => rfl,
    fun _ _ _ _ _ => rfl, fun _ reason _ => by cases reason <;> rfl, fun _ _ _ _ => rfl, fun _ _ _ => rfl, fun _ _ _ => rfl,
    fun _ _ => rfl, fun _ => rfl, fun _ => rfl, fun _ _ _ => rfl, fun _ _ _ found => by cases found <;> rfl, fun i => ?status,
    fun _ _ _ => rfl, fun _ _ _ => rfl, fun _ _ _ _ => rfl, fun _ _ held => by cases held <;> rfl, fun _ _ t u => ?levels,
    fun _ _ _ => rfl, fun r => ?replies, fun r => by cases r <;> rfl, fun r => by cases r <;> rfl⟩
  case status =>
    simp only [Reply.body]
    cases i.heldIndex <;> rfl
  case levels =>
    rw [levels t, levels u]
    rfl
  case replies =>
    cases r with
    | slotsInfo _ _ l => rw [Reply.body, List.length_append, length_flatMap_of_const slotOctets_length]; rfl
    | listInfo _ _ _ l => rw [Reply.body, List.length_append, length_flatMap_of_const waitingOctets_length]; rfl
    | levelsInfo _ _ t u => simp [Reply.body, length_flatMap_of_const levelRowOctets_length, t.size_eq, u.size_eq]
    | refused _ reason _ => cases reason <;> rfl
    | audited _ _ _ found => cases found <;> rfl
    | screenInfo _ _ held => cases held <;> simp [Reply.body]
    | sectorInfo => simp [Reply.body]
    | status => simp [Reply.body]
    | _ => rfl

end Sys2Proof.Machine
end
